-- ==== Sys2Proof/Word.lean ====
section
/-! DEFINITION. The word types of the bus engine (`00_scope.md` R15, R18): a byte, a 16-bit counter
word, a line level and a byte sequence. A clock value is a `Nat` of microseconds (R14(b), R315). -/

namespace Sys2Proof

/-- `u8` of R15: one byte of a frame, a ring entry or a host record. -/
abbrev Byte := BitVec 8

/-- `u16` of R15: an event counter (R64), the idle counter (R45), the drawn backoff (R47). -/
abbrev Half := BitVec 16

/-- A level of the shared line or a logical bit (R18): `true` is 1. On the logical side 1 is mark
(idle, stop bit) and 0 is space (start bit). -/
abbrev Level := Bool

/-- `Seq u8`: a frame, or a part of one, first byte first (R81, R104). -/
abbrev Frame := List Byte

end Sys2Proof
end

