-- ==== Sys2Proof/Config.lean ====
section
/-! DEFINITION. What an implementation of the engine fixes (the parameters of `00_scope.md` R12 with the
constraints of R13), the instance a machine is built with, and the free values of the model. -/

namespace Sys2Proof

/-- One row of an opcode-indexed REPLY_SPEC: a sent frame whose opcode is `opcode` expects a reply of
opcode `replyOpcode`, correlated by the sent frame's byte at index `idAt`. -/
structure ReplyRow where
  opcode : Byte
  replyOpcode : Byte
  idAt : Nat
  deriving DecidableEq, Repr, Inhabited

/-- REPLY_SPEC of R12, R256, named as plain data. DESIGN CHOICE (log 3): a total function cannot be a
field of a comparable state, so an instance names its function. `given k` is an arbitrary function
(`Config.replySpecGiven k`); `byOpcode` is a table that can be written out, such as P_TEST's. -/
inductive ReplySpec where
  | given (k : Nat)
  | byOpcode (rows : List ReplyRow)
  deriving DecidableEq, Repr, Inhabited

/-- MATCH_KEY of R12, R256, named as plain data (log 3): `given k` is an arbitrary function, `byteAt i`
is the frame's byte at index `i` (P_TEST's). -/
inductive MatchKey where
  | given (k : Nat)
  | byteAt (i : Nat)
  deriving DecidableEq, Repr, Inhabited

/-- The implementation parameters of R12, one field per row of its table. The tiers and the gap are
counted in bit intervals. `drawSource` is the model's own (DESIGN CHOICE, log 17): it names the sequence of
free values an engine draws from, so that two engines with different names draw independently. -/
structure Params where
  drawSource : Nat
  txqCap : Nat
  maxRetry : Nat
  gapMin : Nat
  tierPrio : Nat
  tierNormal : Nat
  tierColl : Nat
  backoffRandMax : Nat
  maxFrame : Nat
  txbCap : Nat
  rxbCap : Nat
  respTimeoutUs : Nat
  carrierLossUs : Nat
  bitUsStd : Nat
  bitUsHs : Nat
  replySpec : ReplySpec
  matchKey : MatchKey
  deriving DecidableEq, Repr, Inhabited

/-- The ranges of R12's table and the constraints of R13. -/
abbrev Params.Ok (p : Params) : Prop :=
  1 ≤ p.txqCap ∧ p.txqCap ≤ 255 ∧ p.maxRetry ≤ 254 ∧ 1 ≤ p.gapMin ∧
  p.tierPrio < p.tierNormal ∧ p.tierNormal < p.tierColl ∧
  p.gapMin + p.tierColl + p.backoffRandMax < 65535 ∧
  6 ≤ p.maxFrame ∧ p.maxFrame ≤ 127 ∧ p.maxFrame ≤ p.txbCap ∧ 1 ≤ p.rxbCap ∧
  1 ≤ p.respTimeoutUs ∧ 1 ≤ p.carrierLossUs ∧ 1 ≤ p.bitUsStd ∧ 1 ≤ p.bitUsHs

/-- P_TEST, the parameter set of `95_test_vectors.md`: test values only, not a claim about any device
(R12). The two bit intervals are any value there; 1 is written here. Its drawSource is the model's own
(log 17). -/
def Config.pTest : Params where
  drawSource := 0
  txqCap := 2
  maxRetry := 1
  gapMin := 2
  tierPrio := 1
  tierNormal := 3
  tierColl := 6
  backoffRandMax := 0
  maxFrame := 16
  txbCap := 16
  rxbCap := 8
  respTimeoutUs := 1000
  carrierLossUs := 10000
  bitUsStd := 1
  bitUsHs := 1
  replySpec := .byOpcode [⟨0xBB#8, 0xE7#8, 1⟩]
  matchKey := .byteAt 2

/-- FREE VALUE (log 2): some parameter set, chosen by nobody here. -/
opaque Config.someParams : Params

/-- The parameter set of the machine that `State.reset` describes: any set that meets R13 (log 2). Where
the free value does not meet R13 the test set stands in, so that R13 may be assumed, as it says. -/
def Config.instanceParams : Params :=
  if Config.someParams.Ok then Config.someParams else Config.pTest

/-- FREE VALUE (log 4): `freeDraw source n` is the `n`-th raw draw (R14(c)) of the sequence named `source`
(log 17); `Machine.draw` brings it into `[0, BACKOFF_RAND_MAX]`. -/
opaque Config.freeDraw : Nat → Nat → Nat

/-- FREE VALUE (log 1): `resetTxByte source n` is what a RESET command leaves in tx_byte, which R342 does
not specify, for the sequence named `source` and the counter at `n`. -/
opaque Config.resetTxByte : Nat → Nat → Byte

/-- FREE VALUE (log 1): `resetRxShift source n` is what a RESET command leaves in rx_shift, likewise. -/
opaque Config.resetRxShift : Nat → Nat → Byte

/-- FREE VALUE (log 3): the arbitrary REPLY_SPEC functions of R256, by name. -/
opaque Config.replySpecGiven : Nat → Frame → Option (Byte × Byte)

/-- FREE VALUE (log 3): the arbitrary MATCH_KEY functions of R256, by name. -/
opaque Config.matchKeyGiven : Nat → Frame → Byte

end Sys2Proof
end

