-- ==== Sys2Proof/Syntax.lean ====
section
/-! DEFINITION. The operations of the engine, one constructor per row of `spec/opcode_table.json`
(`30_encoding.md` R118), and the record of the operation stream (R110). -/

namespace Sys2Proof

/-- The operation set (R3). Operands are the operand bytes as the record gives them (R111), so that a
record that R114 calls ILLEGAL for the value of an operand is still a term, and its meaning answers as
R289 says; `Instr.wellFormed` is R114's check of those values. -/
inductive Instr where
  /-- OPC_LEN2: an opcode byte 0x80–0x9F on the wire; `code` is `opc[4:0]` (R103). -/
  | opcLen2 (code : BitVec 5)
  /-- OPC_LEN4: an opcode byte 0xA0–0xBF on the wire. -/
  | opcLen4 (code : BitVec 5)
  /-- OPC_LEN6: an opcode byte 0xC0–0xDF on the wire. -/
  | opcLen6 (code : BitVec 5)
  /-- OPC_LENVAR: an opcode byte 0xE0–0xFF on the wire. -/
  | opcLenVar (code : BitVec 5)
  /-- DATA: a byte with bit 7 = 0 on the wire; `value` is `b[6:0]` (R102). -/
  | data (value : BitVec 7)
  /-- SUBMIT (0x01): operand bytes `flags, n, body`; `n` is the length of `body`. -/
  | submit (flags : Byte) (body : Frame)
  /-- FLUSH (0x02). -/
  | flush
  /-- CONFIG (0x03). -/
  | config (cfg : Byte)
  /-- READ_RESULT (0x04). -/
  | readResult
  /-- READ_STATUS (0x05). -/
  | readStatus
  /-- SET_SINK (0x06). -/
  | setSink (en : Byte)
  /-- READ_COUNTER (0x07). -/
  | readCounter (idx : Byte)
  /-- RESET (0x08). -/
  | reset
  /-- TICK (0x10): `s` is the physical sample, 0 or 1 and nothing else (R115). -/
  | tick (s : Level)
  /-- POLL (0x11). -/
  | poll
  deriving DecidableEq, Repr

/-- The port a record of the operation stream is issued on: the host, the timer context or the polling
context (R11, R110). -/
inductive Port where
  | host
  | timer
  | polling
  deriving DecidableEq, Repr

/-- One record of the operation stream (R110): an operation code, its operand bytes and the clock value
supplied with the step. -/
structure OpRecord where
  port : Port
  code : Byte
  operands : List Byte
  now : Nat
  deriving DecidableEq, Repr

/-- What an operation is written in: a record of the operation stream, or, for the wire rows of the opcode
table, one good character as it stands in RXB (R102, R57). A character is no record: it runs only inside
POLL's step 3 (R200, R273; log 6). -/
inductive Written where
  | record (r : OpRecord)
  | character (b : Byte)
  deriving DecidableEq, Repr

end Sys2Proof
end

