-- ==== Sys2Proof/WellFormed.lean ====
section
/-! DEFINITION. Which operations are well formed: the operand checks of `30_encoding.md` R114. -/

namespace Sys2Proof

/-- R114's checks of operand values, for an engine with parameters `p`: SUBMIT's flags bits 7:1 are 0 and
1 ≤ n ≤ MAX_FRAME − 1 (n is one byte), CONFIG's bits 7:2 are 0, SET_SINK's operand is 0x00 or 0x01,
READ_COUNTER's index is at most 8. Every wire byte, TICK and POLL is well formed. -/
def Instr.wellFormed (p : Params) : Instr → Bool
  | .opcLen2 _ | .opcLen4 _ | .opcLen6 _ | .opcLenVar _ | .data _ => true
  | .submit flags body =>
      flags &&& 0xFE#8 == 0x00#8 && decide (1 ≤ body.length) &&
      decide (body.length ≤ p.maxFrame - 1) && decide (body.length ≤ 255)
  | .config cfg => cfg &&& 0xFC#8 == 0x00#8
  | .setSink en => en == 0x00#8 || en == 0x01#8
  | .readCounter idx => decide (idx.toNat ≤ 8)
  | .flush | .readResult | .readStatus | .reset | .tick _ | .poll => true

/-- The operations the record format can carry: SUBMIT's count `n` is one byte (R111), so a body of more
than 255 bytes has no record. -/
def Instr.encodable : Instr → Bool
  | .submit _ body => decide (body.length ≤ 255)
  | .opcLen2 _ | .opcLen4 _ | .opcLen6 _ | .opcLenVar _ | .data _ | .flush | .config _
  | .readResult | .readStatus | .setSink _ | .readCounter _ | .reset | .tick _ | .poll => true

end Sys2Proof
end

