-- ==== Sys2Proof/Decode.lean ====
section
/-! DEFINITION. Decoding a record of the operation stream (`30_encoding.md` R102, R103, R110, R111, R114,
R115) and, after it, the encoder. -/

namespace Sys2Proof

/-- Why a record is not an operation. -/
inductive DecodeError where
  /-- A host record whose code is 0x00, 0x09–0x0F, a port code, or 0x12–0xFF (R114). -/
  | unknownCode (code : Byte)
  /-- A host record whose operand count is not R111's (R114). -/
  | operandCount (code : Byte)
  /-- A timer record that is not `10 00` or `10 01` (R115). -/
  | notATick
  /-- A polling record that is not `11` with no operand (R115). -/
  | notAPoll
  deriving DecidableEq, Repr

/-- One character on the wire: `b[7]` says opcode or data (R102), `opc[6:5]` the length class (R103). -/
def decodeWire (b : Byte) : Instr :=
  if b.getLsbD 7 then
    match (b.extractLsb' 5 2).toNat with
    | 0 => .opcLen2 (b.extractLsb' 0 5)
    | 1 => .opcLen4 (b.extractLsb' 0 5)
    | 2 => .opcLen6 (b.extractLsb' 0 5)
    | _ => .opcLenVar (b.extractLsb' 0 5)
  else .data (b.extractLsb' 0 7)

/-- A host command record (R111). Codes and operand counts are checked here; the values of operands are
checked by the command's meaning before any effect (R280). -/
def decodeHost (code : Byte) (operands : List Byte) : Except DecodeError Instr :=
  match code.toNat, operands with
  | 0x01, flags :: n :: body =>
      if body.length = n.toNat then .ok (.submit flags body) else .error (.operandCount code)
  | 0x02, [] => .ok .flush
  | 0x03, [cfg] => .ok (.config cfg)
  | 0x04, [] => .ok .readResult
  | 0x05, [] => .ok .readStatus
  | 0x06, [en] => .ok (.setSink en)
  | 0x07, [idx] => .ok (.readCounter idx)
  | 0x08, [] => .ok .reset
  | c, _ => if 1 ≤ c ∧ c ≤ 8 then .error (.operandCount code) else .error (.unknownCode code)

/-- A timer record: TICK with the sample 0 or 1 (R110, R115). -/
def decodeTimer (code : Byte) (operands : List Byte) : Except DecodeError Instr :=
  match code.toNat, operands with
  | 0x10, [s] =>
      if s = 0x00#8 then .ok (.tick false)
      else if s = 0x01#8 then .ok (.tick true)
      else .error .notATick
  | _, _ => .error .notATick

/-- A polling record: POLL, with no operand (R110, R115). -/
def decodePolling (code : Byte) (operands : List Byte) : Except DecodeError Instr :=
  match code.toNat, operands with
  | 0x11, [] => .ok .poll
  | _, _ => .error .notAPoll

/-- The operation a record stands for. Total: every record is an operation or is rejected by name. -/
def decode (r : OpRecord) : Except DecodeError Instr :=
  match r.port with
  | .host => decodeHost r.code r.operands
  | .timer => decodeTimer r.code r.operands
  | .polling => decodePolling r.code r.operands

/-- The operation that a record or a character is. -/
def decodeWritten : Written → Except DecodeError Instr
  | .record r => decode r
  | .character b => .ok (decodeWire b)

/-! ### The encoder -/

/-- The port an operation is issued on (R110); a wire byte is issued on none. -/
def portOf : Instr → Option Port
  | .opcLen2 _ | .opcLen4 _ | .opcLen6 _ | .opcLenVar _ | .data _ => none
  | .submit _ _ | .flush | .config _ | .readResult | .readStatus | .setSink _ | .readCounter _ | .reset =>
    some .host
  | .tick _ => some .timer
  | .poll => some .polling

/-- The first byte of an operation: the wire byte (R102, R103) or the operation code (R111). -/
def codeOf : Instr → Byte
  | .opcLen2 m => 0b100#3 ++ m
  | .opcLen4 m => 0b101#3 ++ m
  | .opcLen6 m => 0b110#3 ++ m
  | .opcLenVar m => 0b111#3 ++ m
  | .data v => 0b0#1 ++ v
  | .submit _ _ => 0x01#8
  | .flush => 0x02#8
  | .config _ => 0x03#8
  | .readResult => 0x04#8
  | .readStatus => 0x05#8
  | .setSink _ => 0x06#8
  | .readCounter _ => 0x07#8
  | .reset => 0x08#8
  | .tick _ => 0x10#8
  | .poll => 0x11#8

/-- The operand bytes of an operation, in R111's order. -/
def operandsOf : Instr → List Byte
  | .submit flags body => flags :: BitVec.ofNat 8 body.length :: body
  | .config cfg => [cfg]
  | .setSink en => [en]
  | .readCounter idx => [idx]
  | .tick s => [if s then 0x01#8 else 0x00#8]
  | .opcLen2 _ | .opcLen4 _ | .opcLen6 _ | .opcLenVar _ | .data _ | .flush | .readResult
  | .readStatus | .reset | .poll => []

/-- The bytes of an operation: its code, then its operands (R110). -/
def encode (i : Instr) : List Byte := codeOf i :: operandsOf i

/-- The record of an operation issued at clock value `now`; a wire byte has none. -/
def recordOf (i : Instr) (now : Nat) : Option OpRecord :=
  (portOf i).map fun p => { port := p, code := codeOf i, operands := operandsOf i, now := now }

/-- What an operation is written in: its record, or the wire byte itself. -/
def writtenOf (i : Instr) (now : Nat) : Written :=
  match recordOf i now with
  | some r => .record r
  | none => .character (codeOf i)

/-! ### The opcode table's numbering -/

/-- Byte `k` of a number whose bits count from the least significant bit of its first byte. -/
def tableByte (w k : Nat) : Byte := BitVec.ofNat 8 (w >>> (8 * k))

/-- The port of the opcode-table row that a first byte belongs to: the codes 0x01–0x08 are host commands,
0x10 and 0x11 the two ports, and every other byte is a wire byte (R118). DESIGN CHOICE (log 7): the table
numbers wire bytes and codes alike, and the row with the longer mask is taken. -/
def tablePort (code : Byte) : Option Port :=
  if 1 ≤ code.toNat ∧ code.toNat ≤ 8 then some .host
  else if code = 0x10#8 then some .timer
  else if code = 0x11#8 then some .polling
  else none

/-- How many operand bytes the record of a table row has (R111); SUBMIT's second operand byte counts its
body. -/
def tableOperandCount (code : Byte) (given : List Byte) : Nat :=
  match code.toNat with
  | 0x01 => 2 + (given.getD 1 0x00#8).toNat
  | 0x03 | 0x06 | 0x07 | 0x10 => 1
  | _ => 0

/-- What the `nbits` bits of `w` (at least one byte) write: a wire byte, or the record of these bytes followed
by operand bytes of zeros up to the row's operand count. -/
def tableWritten (nbits w : Nat) (now : Nat) : Written :=
  let code := tableByte w 0
  let given := (List.range ((nbits + 7) / 8 - 1)).map fun k => tableByte w (k + 1)
  match tablePort code with
  | none => .character code
  | some port => .record
      { port := port
        code := code
        operands := given ++ List.replicate (tableOperandCount code given - given.length) 0x00#8
        now := now }

/-- What the decoder reads from an instruction whose bits are `w`, numbered as `spec/opcode_table.json`
numbers them; every bit above `nbits` is 0. -/
def decodeTableWord (nbits w : Nat) : Option Instr :=
  match decodeWritten (tableWritten nbits w 0) with
  | .ok i => some i
  | .error _ => none

end Sys2Proof
end

