-- ==== Sys2Proof/Machine/State.lean ====
section
/-! DEFINITION. The state of one engine: every element of `10_state.md`, the output channels, and the
model's own fields for what the environment supplies. Plain data throughout. -/

namespace Sys2Proof.Machine

/-- LineState (R38). The code 3 never occurs. -/
inductive LineState where
  | idle
  | transmitting
  | collisionDetected
  deriving DecidableEq, Repr

/-- A bit of an outgoing character (R39): `start` is tx_bitpos 0, `data k` is 1 + k, `stop` is 9. -/
inductive TxBit where
  | start
  | data (k : Fin 8)
  | stop
  deriving DecidableEq, Repr

/-- The next bit of an incoming character (R41): `data k` is rx_bitpos 1 + k, `stop` is 9. -/
inductive RxBit where
  | data (k : Fin 8)
  | stop
  deriving DecidableEq, Repr

/-- The kind of a backoff event (R46). -/
inductive BackoffEvent where
  | msg
  | collision
  deriving DecidableEq, Repr

/-- tx_outcome (R48). -/
inductive TxOutcome where
  | none
  | done
  | collided
  deriving DecidableEq, Repr

/-- A slot's last-failure reason (R52). -/
inductive LastFail where
  | none
  | collision
  deriving DecidableEq, Repr

/-- TransmitSlot (R52). -/
structure Slot where
  frame : Frame
  prio : Bool
  enqUs : Nat
  attempts : Byte
  lastFail : LastFail
  deriving DecidableEq, Repr

/-- RxEntry (R57): `err` marks a character whose stop bit was malformed. -/
structure RxEntry where
  err : Bool
  byte : Byte
  deriving DecidableEq, Repr

/-- asm_state (R58); the source's `Complete` is never stored. -/
inductive AsmState where
  | waitOpc
  | waitLen
  | waitPayload
  deriving DecidableEq, Repr

/-- PendingResponse (R61). -/
structure PendingResponse where
  replyOpc : Byte
  corrId : Byte
  sentUs : Nat
  deadlineUs : Nat
  deriving DecidableEq, Repr

/-- result_code (R62). The codes 6 to 15 never occur. -/
inductive ResultCode where
  | none
  | sent
  | collidedRetrying
  | collidedDropped
  | replyReceived
  | replyTimeout
  deriving DecidableEq, Repr

/-- The names of CNT[0] to CNT[8], in order (R64). -/
inductive Counter where
  | cksumErr
  | framingErr
  | collision
  | dropped
  | replyTimeout
  | carrierLoss
  | rxOverrun
  | rxFrames
  | txFrames
  deriving DecidableEq, Repr

/-- CNT[0..8] (R64), one 16-bit word each. -/
structure Counters where
  cksumErr : Half
  framingErr : Half
  collision : Half
  dropped : Half
  replyTimeout : Half
  carrierLoss : Half
  rxOverrun : Half
  rxFrames : Half
  txFrames : Half
  deriving DecidableEq, Repr

/-- The error events E1 to E15 of `60_exceptions.md` R300, in order. -/
inductive ErrorEvent where
  | stopErr
  | lenOverflow
  | noise
  | aborted
  | cksum
  | collision
  | retry
  | dropped
  | queueFull
  | invalidBody
  | replyTimeout
  | replyReplaced
  | carrierLoss
  | rxOverrun
  | illegal
  deriving DecidableEq, Repr

/-- The engine's state. The groups follow the sections of `10_state.md`. -/
structure State where
  /-- The instance's implementation parameters (R12, R322); no step writes them. -/
  params : Params
  /-- CFG_INV_SH (R32). -/
  cfgInvSh : Bool
  /-- CFG_SPEED_SH (R33). -/
  cfgSpeedSh : Bool
  /-- cfg_inv (R34). -/
  cfgInv : Bool
  /-- speed_sel (R35), an output to the tick timer. -/
  speedSel : Bool
  /-- SINK_EN (R36). -/
  sinkEn : Bool
  /-- line_state (R38). -/
  lineState : LineState
  /-- tx_bitpos (R39). -/
  txBitpos : Option TxBit
  /-- tx_byte (R40). -/
  txByte : Byte
  /-- rx_bitpos (R41). -/
  rxBitpos : Option RxBit
  /-- rx_shift (R42). -/
  rxShift : Byte
  /-- prev_l (R43). -/
  prevL : Level
  /-- drive (R44), the output pin level. -/
  drive : Level
  /-- idle_count (R45). -/
  idleCount : Half
  /-- last_event (R46). -/
  lastEvent : BackoffEvent
  /-- backoff_r (R47). -/
  backoffR : Half
  /-- tx_outcome (R48). -/
  txOutcome : TxOutcome
  /-- carrier_seen (R49). -/
  carrierSeen : Bool
  /-- cl_deadline (R50). -/
  clDeadline : Option Nat
  /-- cl_notify (R51). -/
  clNotify : Bool
  /-- TXQ (R53, R54), head first. -/
  txq : List Slot
  /-- inflight (R55). -/
  inflight : Option Slot
  /-- TXB (R56), head first. -/
  txb : List Byte
  /-- RXB (R57), head first. -/
  rxb : List RxEntry
  /-- asm_state (R58). -/
  asmState : AsmState
  /-- asm_buf (R59). -/
  asmBuf : Frame
  /-- asm_expect (R60). -/
  asmExpect : Byte
  /-- pending (R61). -/
  pending : Option PendingResponse
  /-- result_code (R62). -/
  resultCode : ResultCode
  /-- result_seq (R63). -/
  resultSeq : Byte
  /-- CNT[0..8] (R64). -/
  cnt : Counters
  /-- DISPATCH (R66(d)): the frames emitted so far, oldest first; the consumer's, never read back. -/
  dispatch : List Frame
  /-- The response bytes of the latest record (R111), status first; empty where it returns none (log 5). -/
  response : List Byte
  /-- The operation stream (R110): the records the agents have issued and no step has taken (log 5). -/
  input : List OpRecord
  /-- The clock value supplied with the step under way (R14(b), R315; log 5). -/
  now : Nat
  /-- How many free values have been supplied: backoff draws (R14(c); log 4) and, at a RESET, the two
  unspecified bytes (R342; log 1). -/
  draws : Nat
  deriving DecidableEq, Repr

/-- The faults of the engine: there are none. R301: no event halts the engine; R310: there is no trap
entry. An empty type says so: no step of the model can answer a fault. -/
inductive Fault where
  deriving DecidableEq, Repr

/-- What a step refuses. -/
inductive Refusal where
  /-- Raised by no arm of `exec` (every row has its meaning); the name the host fixes. Safe: the model
  would stop. -/
  | notModelled (mnemonic : String)
  /-- Raised by `step` on a record that cannot be written (R115): a timer record other than `10 00` and
  `10 01`, a polling record other than `11`. Safe: no agent of the engine issues such a record. -/
  | notAPortRecord (why : DecodeError)
  deriving DecidableEq, Repr

/-- The engine right after power-on, for an instance with parameters `p` (R70, R340). `txByte` and
`rxShift` are unspecified there and never observed (R342); 0x00 is the model's choice for power-on
(DESIGN CHOICE, log 1), and the RESET command leaves free values in them. The channels and the environment's
fields hold nothing yet. -/
def State.resetOf (p : Params) : State where
  params := p
  cfgInvSh := false
  cfgSpeedSh := false
  cfgInv := false
  speedSel := false
  sinkEn := false
  lineState := .idle
  txBitpos := none
  txByte := 0x00#8
  rxBitpos := none
  rxShift := 0x00#8
  prevL := false
  drive := true
  idleCount := 0#16
  lastEvent := .msg
  backoffR := 0#16
  txOutcome := .none
  carrierSeen := false
  clDeadline := none
  clNotify := false
  txq := []
  inflight := none
  txb := []
  rxb := []
  asmState := .waitOpc
  asmBuf := []
  asmExpect := 0x00#8
  pending := none
  resultCode := .none
  resultSeq := 0x00#8
  cnt := ⟨0#16, 0#16, 0#16, 0#16, 0#16, 0#16, 0#16, 0#16, 0#16⟩
  dispatch := []
  response := []
  input := []
  now := 0
  draws := 0

/-- The machine right after power-on: `State.resetOf` for the instance's own parameters (log 2). -/
def State.reset : State := State.resetOf Config.instanceParams

end Sys2Proof.Machine
end

