-- ==== Sys2Proof/Machine/Ops.lean ====
section
/-! DEFINITION. The shared operations over the state: counters and error events (`60_exceptions.md` R300,
R303), backoff events (`43_arbitration.md` R214), the result register (R254), the rings
(`20_memory.md` R85–R87), the assembler's reset (R190) and the host responses (R112, R289).

An error event is the nearest thing the engine has to an exception: `count` is the one operation by which
every rule records one. There is no trap entry and no return (R310, R311): nothing is saved, no mode
changes, and the step that detects the event also finishes it. -/

namespace Sys2Proof.Machine

/-! ### Counters and error events -/

/-- CNT of one name (R64). -/
def Counters.get (n : Counters) : Counter → Half
  | .cksumErr => n.cksumErr
  | .framingErr => n.framingErr
  | .collision => n.collision
  | .dropped => n.dropped
  | .replyTimeout => n.replyTimeout
  | .carrierLoss => n.carrierLoss
  | .rxOverrun => n.rxOverrun
  | .rxFrames => n.rxFrames
  | .txFrames => n.txFrames

/-- CNT with one entry replaced. -/
def Counters.set (n : Counters) (c : Counter) (v : Half) : Counters :=
  match c with
  | .cksumErr => { n with cksumErr := v }
  | .framingErr => { n with framingErr := v }
  | .collision => { n with collision := v }
  | .dropped => { n with dropped := v }
  | .replyTimeout => { n with replyTimeout := v }
  | .carrierLoss => { n with carrierLoss := v }
  | .rxOverrun => { n with rxOverrun := v }
  | .rxFrames => { n with rxFrames := v }
  | .txFrames => { n with txFrames := v }

/-- `CNT[c] <- wrap16(CNT[c] + 1)` (R64, R16). -/
def bump (c : Counter) (s : State) : State :=
  { s with cnt := s.cnt.set c (s.cnt.get c + 1#16) }

/-- The counter that an error event increments, from the record column of R300; E7, E9, E10 and E15
increment none. -/
def counterOf : ErrorEvent → Option Counter
  | .stopErr | .lenOverflow | .noise | .aborted => some .framingErr
  | .cksum => some .cksumErr
  | .collision => some .collision
  | .dropped => some .dropped
  | .replyTimeout | .replyReplaced => some .replyTimeout
  | .carrierLoss => some .carrierLoss
  | .rxOverrun => some .rxOverrun
  | .retry | .queueFull | .invalidBody | .illegal => none

/-- Record an error event in the counters (R300, R303). -/
def count (e : ErrorEvent) (s : State) : State :=
  match counterOf e with
  | some c => bump c s
  | none => s

/-! ### Backoff events -/

/-- `sat16(n + 1)` (R16), for the idle counter (R45). -/
def satSucc (n : Half) : Half := BitVec.ofNat 16 (min (n.toNat + 1) 65535)

/-- `draw_r()` (R14(c), R17): the environment's next draw, in [0, BACKOFF_RAND_MAX] (log 4). The spec says
nothing of how the draws of different engines relate (R14(c), R322); in the model engines of different
`drawSource` draw from unrelated sequences, and engines of one `drawSource` share a sequence, each at its own
counter (DESIGN CHOICE, log 17). -/
def draw (s : State) : Half :=
  if s.params.backoffRandMax = 0 then 0#16
  else BitVec.ofNat 16 (Config.freeDraw s.params.drawSource s.draws % (s.params.backoffRandMax + 1))

/-- A backoff event (R214): last_event is written and backoff_r is drawn afresh. -/
def backoffEvent (e : BackoffEvent) (s : State) : State :=
  { s with lastEvent := e, backoffR := draw s, draws := s.draws + 1 }

/-! ### Result register -/

/-- set_result (R254): the code is written and the sequence number counts the write modulo 256. -/
def setResult (c : ResultCode) (s : State) : State :=
  { s with resultCode := c, resultSeq := s.resultSeq + 0x01#8 }

/-! ### Rings -/

/-- TICK's push into RXB (R148, R87): the newest entry is dropped, and counted, when the ring is full. -/
def pushRxb (e : RxEntry) (s : State) : State :=
  if s.rxb.length < s.params.rxbCap then { s with rxb := s.rxb ++ [e] }
  else count .rxOverrun s

/-! ### Receive assembler -/

/-- asm_reset (`42_receive_assembler.md`, opening). -/
def asmReset (s : State) : State :=
  { s with asmState := .waitOpc, asmBuf := [], asmExpect := 0x00#8 }

/-! ### Bits -/

/-- `v[k] <- b` (R147). -/
def setBit (v : Byte) (k : Nat) (b : Bool) : Byte :=
  (v &&& ~~~(0x01#8 <<< k)) ||| ((BitVec.ofBool b).setWidth 8 <<< k)

/-! ### Host responses -/

/-- The response of a host command, status first (R111, R113). -/
def respond (bytes : List Byte) (s : State) : State := { s with response := bytes }

/-- Status OK (R112). -/
def statusOk : Byte := 0x00#8
/-- Status QUEUED (R112). -/
def statusQueued : Byte := 0x01#8
/-- Status REJECTED_FULL (R112). -/
def statusRejectedFull : Byte := 0x02#8
/-- Status REJECTED_INVALID (R112). -/
def statusRejectedInvalid : Byte := 0x03#8
/-- Status ILLEGAL (R112). -/
def statusIllegal : Byte := 0x0F#8

/-- ILLEGAL (R289): no state changes, and the response is the one byte 0x0F (event E15). -/
def illegal (s : State) : State := respond [statusIllegal] (count .illegal s)

end Sys2Proof.Machine
end

