-- ==== Sys2Proof/Machine/Operands.lean ====
section
/-! DEFINITION. Reading the operands of host commands: each reader answers `none` where R114 calls the
record ILLEGAL for an operand's value, and the operand's meaning otherwise. -/

namespace Sys2Proof.Machine

/-- SUBMIT's operands (R281): the PRIO flag, where flags bits 7:1 are 0 and 1 ≤ n ≤ MAX_FRAME − 1, with
n one byte. -/
def readSubmit (p : Params) (flags : Byte) (body : Frame) : Option Bool :=
  if flags &&& 0xFE#8 = 0x00#8 ∧ 1 ≤ body.length ∧ body.length ≤ p.maxFrame - 1 ∧ body.length ≤ 255 then
    some (flags.getLsbD 0)
  else none

/-- CONFIG's operand (R283, R37): INV and SPEED, where bits 7:2 are 0. -/
def readConfig (cfg : Byte) : Option (Bool × Bool) :=
  if cfg &&& 0xFC#8 = 0x00#8 then some (cfg.getLsbD 0, cfg.getLsbD 1) else none

/-- SET_SINK's operand (R286): 0x00 or 0x01. -/
def readSink (en : Byte) : Option Bool :=
  if en = 0x00#8 then some false else if en = 0x01#8 then some true else none

/-- READ_COUNTER's operand (R287, R64): an index 0 to 8. -/
def readIndex (idx : Byte) : Option Counter :=
  match idx.toNat with
  | 0 => some .cksumErr
  | 1 => some .framingErr
  | 2 => some .collision
  | 3 => some .dropped
  | 4 => some .replyTimeout
  | 5 => some .carrierLoss
  | 6 => some .rxOverrun
  | 7 => some .rxFrames
  | 8 => some .txFrames
  | _ => none

end Sys2Proof.Machine
end

