-- ==== Sys2Proof/Machine/Codec.lean ====
section
/-! DEFINITION. The frame codec (`41_frame_codec.md` R170–R178) and the body check of
`44_transmit_queue.md` R230: pure functions of bytes, with no state (R180). -/

namespace Sys2Proof.Machine

/-- The answers of decodeLength (R170). -/
inductive LengthClass where
  | fixed (n : Nat)
  | variableLen
  | notOpcode
  deriving DecidableEq, Repr

/-- decodeLength (R170, R103): the class is `opc[6:5]`. -/
def decodeLength (opc : Byte) : LengthClass :=
  if opc.getLsbD 7 then
    match (opc.extractLsb' 5 2).toNat with
    | 0 => .fixed 2
    | 1 => .fixed 4
    | 2 => .fixed 6
    | _ => .variableLen
  else .notOpcode

/-- frameLength (R171): the total length a frame prefix declares, once it can be known. -/
def frameLength (f : Frame) : Option Nat :=
  match f with
  | [] => none
  | opc :: rest =>
    match decodeLength opc with
    | .fixed n => some n
    | .variableLen => rest.head?.map BitVec.toNat
    | .notOpcode => none

/-- xorAcc (R172): the XOR fold, 0x00 on no byte. -/
def xorAcc (bytes : Frame) : Byte := bytes.foldr (· ^^^ ·) 0x00#8

/-- valid (R173). -/
def valid (f : Frame) : Bool := decide (2 ≤ f.length) && xorAcc f == 0xFF#8

/-- checkByte (R174): the complement of the XOR fold. -/
def checkByte (body : Frame) : Byte := xorAcc body ^^^ 0xFF#8

/-- The five conditions of shapeOK (R175), for an engine whose frames have at most `maxFrame` bytes. -/
def shapeOK (maxFrame : Nat) (f : Frame) : Bool :=
  match f with
  | [] => false
  | opc :: rest =>
    decide (2 ≤ f.length) && decide (f.length ≤ maxFrame) &&
    opc.getLsbD 7 && rest.all (fun b => !b.getLsbD 7) &&
    frameLength f == some f.length &&
    (decodeLength opc != .variableLen || decide (3 ≤ (rest.headD 0x00#8).toNat))

/-- encode (R176): the body and its check byte. -/
def encodeFrame (body : Frame) : Frame := body ++ [checkByte body]

/-- decode (R177): the body of a well-shaped valid frame. -/
def decodeFrame (maxFrame : Nat) (f : Frame) : Option Frame :=
  if shapeOK maxFrame f && valid f then some f.dropLast else none

/-- wellFormedBody (R230). -/
def wellFormedBody (maxFrame : Nat) (b : Frame) : Bool :=
  decide (1 ≤ b.length) && decide (b.length ≤ maxFrame - 1) && shapeOK maxFrame (encodeFrame b)

end Sys2Proof.Machine
end

