-- ==== Sys2Proof/Machine/Correlator.lean ====
section
/-! DEFINITION. The response correlator and the dispatch sink (`45_correlator_dispatch.md` R250–R259). -/

namespace Sys2Proof.Machine

/-- REPLY_SPEC of an instance (R12, R256). -/
def replySpec (spec : ReplySpec) (f : Frame) : Option (Byte × Byte) :=
  match spec with
  | .given k => Config.replySpecGiven k f
  | .byOpcode rows =>
    (rows.find? fun r => f.head? == some r.opcode).map fun r => (r.replyOpcode, f.getD r.idAt 0x00#8)

/-- MATCH_KEY of an instance (R12, R256). -/
def matchKey (key : MatchKey) (f : Frame) : Byte :=
  match key with
  | .given k => Config.matchKeyGiven k f
  | .byteAt i => f.getD i 0x00#8

/-- arm (R250, R251): a replaced record counts E12 and writes no result. -/
def arm (frame : Frame) (s : State) : State :=
  match replySpec s.params.replySpec frame with
  | none => s
  | some (ro, cid) =>
    let s := if s.pending.isSome then count .replyReplaced s else s
    { s with
      pending := some
        { replyOpc := ro, corrId := cid, sentUs := s.now, deadlineUs := s.now + s.params.respTimeoutUs } }

/-- Whether an inbound frame answers a pending record (R252): the deadline is not tested. -/
def answers (key : MatchKey) (f : Frame) (p : PendingResponse) : Bool :=
  f.head? == some p.replyOpc && matchKey key f == p.corrId

/-- correlate (R252). -/
def correlate (f : Frame) (s : State) : State :=
  match s.pending with
  | some p =>
    if answers s.params.matchKey f p then { setResult .replyReceived s with pending := none } else s
  | none => s

/-- timeout_check (R253), event E11. -/
def timeoutCheck (s : State) : State :=
  match s.pending with
  | some p =>
    if p.deadlineUs ≤ s.now then { count .replyTimeout (setResult .replyTimeout s) with pending := none }
    else s
  | none => s

/-- dispatch (R257): the whole frame, check byte included, when a consumer is registered. -/
def dispatchFrame (f : Frame) (s : State) : State :=
  if s.sinkEn then { s with dispatch := s.dispatch ++ [f] } else s

end Sys2Proof.Machine
end

