-- ==== Sys2Proof/Machine/Flags.lean ====
section
/-! DEFINITION. What is computed from the state and not stored: the bus availability
(`43_arbitration.md` R210–R213), the status bytes (`10_state.md` R65), the bit positions' numbers
(R39, R41) and the outputs (R66, R321, R317). The engine has no condition codes (R67). -/

namespace Sys2Proof.Machine

/-- BusAvailability (R210). -/
inductive Availability where
  | busy
  | awaitBackoff
  | netAvailable
  deriving DecidableEq, Repr

/-- cand_prio (R213): the candidate is the in-flight slot, else the head of TXQ. -/
def candPrio (s : State) : Bool :=
  match s.inflight with
  | some slot => slot.prio
  | none => match s.txq with
    | slot :: _ => slot.prio
    | [] => false

/-- tier (R212), in bit intervals. -/
def tier (s : State) : Nat :=
  match s.lastEvent with
  | .collision => s.params.tierColl
  | .msg => if candPrio s then s.params.tierPrio else s.params.tierNormal

/-- W (R211): the length of the backoff window. -/
def backoffWindow (s : State) : Nat := tier s + s.backoffR.toNat

/-- Avail (R210). -/
def avail (s : State) : Availability :=
  if s.lineState ≠ .idle ∨ s.txBitpos ≠ none ∨ s.rxBitpos ≠ none then .busy
  else if s.idleCount.toNat < s.params.gapMin then .busy
  else if s.idleCount.toNat < s.params.gapMin + backoffWindow s then .awaitBackoff
  else .netAvailable

/-- busy_out (R321). -/
def busyOut (s : State) : Bool :=
  decide (s.lineState ≠ .idle) || s.txBitpos.isSome || s.rxBitpos.isSome

/-- The bit interval the external timer uses (R317, R33): the engine itself never reads it (R157). -/
def bitIntervalUs (s : State) : Nat :=
  if s.speedSel then s.params.bitUsHs else s.params.bitUsStd

/-! ### Encodings of the enumerated elements -/

/-- The number of a tx_bitpos (R39). -/
def txBitNumber : TxBit → Nat
  | .start => 0
  | .data k => 1 + k.val
  | .stop => 9

/-- The number of an rx_bitpos (R41). -/
def rxBitNumber : RxBit → Nat
  | .data k => 1 + k.val
  | .stop => 9

/-- LINE (R65, R38). -/
def lineCode : LineState → BitVec 2
  | .idle => 0
  | .transmitting => 1
  | .collisionDetected => 2

/-- AVAIL (R65, R210). -/
def availCode : Availability → BitVec 2
  | .busy => 0
  | .awaitBackoff => 1
  | .netAvailable => 2

/-- result_code as a 4-bit number (R62). -/
def resultNumber : ResultCode → BitVec 4
  | .none => 0
  | .sent => 1
  | .collidedRetrying => 2
  | .collidedDropped => 3
  | .replyReceived => 4
  | .replyTimeout => 5

/-! ### Status bytes -/

/-- STATUS byte 0 (R65, R285): SINK, INFL, PEND, CLN, AVAIL, LINE from bit 7 down. -/
def statusByte0 (s : State) : Byte :=
  BitVec.ofBool s.sinkEn ++ BitVec.ofBool s.inflight.isSome ++ BitVec.ofBool s.pending.isSome ++
    BitVec.ofBool s.clNotify ++ availCode (avail s) ++ lineCode s.lineState

/-- STATUS byte 1 (R65): QLEN. -/
def statusByte1 (s : State) : Byte := BitVec.ofNat 8 s.txq.length

/-- STATUS byte 2 (R65, R285): SPD_SH, INV_SH, SPD, INV in bits 3 to 0. -/
def statusByte2 (s : State) : Byte :=
  0#4 ++ BitVec.ofBool s.cfgSpeedSh ++ BitVec.ofBool s.cfgInvSh ++ BitVec.ofBool s.speedSel ++
    BitVec.ofBool s.cfgInv

/-- The three bytes of READ_STATUS (R65). -/
def statusBytes (s : State) : List Byte := [statusByte0 s, statusByte1 s, statusByte2 s]

/-- The two bytes of READ_RESULT (R113): result_code in bits 3:0, then result_seq. -/
def resultBytes (s : State) : List Byte := [(resultNumber s.resultCode).setWidth 8, s.resultSeq]

/-- The two bytes of READ_COUNTER (R83, R113): low byte first. -/
def counterBytes (c : Counter) (s : State) : List Byte :=
  [(s.cnt.get c).extractLsb' 0 8, (s.cnt.get c).extractLsb' 8 8]

end Sys2Proof.Machine
end

