-- ==== Sys2Proof/Machine/Queue.lean ====
section
/-! DEFINITION. The transmit queue (`44_transmit_queue.md` R230–R240). -/

namespace Sys2Proof.Machine

/-- The slots that count against TXQ_CAP: those queued and the one in flight (R232). -/
def occupancy (s : State) : Nat := s.txq.length + (if s.inflight.isSome then 1 else 0)

/-- enqueue (R231), with the clock value of the step: the validity check (event E10) comes before the
capacity check (event E9). -/
def enqueue (body : Frame) (prio : Bool) (s : State) : State :=
  if ¬ wellFormedBody s.params.maxFrame body then
    respond [statusRejectedInvalid] (count .invalidBody s)
  else if s.params.txqCap ≤ occupancy s then
    respond [statusRejectedFull] (count .queueFull s)
  else
    respond [statusQueued]
      { s with
        txq := s.txq ++
          [{ frame := encodeFrame body, prio := prio, enqUs := s.now, attempts := 0x00#8,
             lastFail := .none }] }

/-- flush (R237): TXQ alone is emptied. -/
def flushQueue (s : State) : State := { s with txq := [] }

/-- drainNext (R233): the oldest slot goes in flight and its frame into TXB. -/
def drainNext (s : State) : State :=
  match s.inflight, s.txq with
  | none, slot :: rest =>
    if avail s = .netAvailable then
      { s with txq := rest, inflight := some slot, txb := s.txb ++ slot.frame }
    else s
  | _, _ => s

/-- Outcome DONE (R234). Without an in-flight slot, which no run reaches (R69(3)), there is no frame to
arm with and the rest still happens (log 9). -/
def handleDone (s : State) : State :=
  let t := setResult .sent (bump .txFrames { s with inflight := none, txOutcome := .none })
  match s.inflight with
  | some slot => arm slot.frame t
  | none => t

/-- A slot after one more collision (R235). -/
def collidedSlot (slot : Slot) : Slot :=
  { slot with attempts := slot.attempts + 0x01#8, lastFail := .collision }

/-- drop (R236), event E8. -/
def dropSlot (s : State) : State := setResult .collidedDropped (count .dropped s)

/-- The requeue at the tail (R235), event E7. -/
def requeue (slot : Slot) (s : State) : State :=
  setResult .collidedRetrying (count .retry { s with txq := s.txq ++ [slot] })

/-- Outcome COLLIDED (R235, R236): the slot is requeued, or dropped once its attempts exceed MAX_RETRY.
Without an in-flight slot, which no run reaches (R69(3)), there is none to requeue or drop (log 9). -/
def handleCollided (s : State) : State :=
  let t := { s with inflight := none, txOutcome := .none }
  match s.inflight with
  | some slot =>
    if s.params.maxRetry < (collidedSlot slot).attempts.toNat then dropSlot t
    else requeue (collidedSlot slot) t
  | none => t

/-- POLL's step 2 (R272). -/
def handleOutcome (s : State) : State :=
  match s.txOutcome with
  | .none => s
  | .done => handleDone s
  | .collided => handleCollided s

end Sys2Proof.Machine
end

