-- ==== Sys2Proof/Machine/HostCommands.lean ====
section
/-! DEFINITION. The meanings of the eight host commands (`47_host_commands.md` R280–R290). Each first reads
its operands; where R114 calls them ILLEGAL the command is ILLEGAL (R289), before any effect (R280). -/

namespace Sys2Proof.Machine

/-- SUBMIT (R281). -/
def execSubmit (flags : Byte) (body : Frame) (s : State) : Host.Outcome State Fault Refusal :=
  .next (match readSubmit s.params flags body with
    | some prio => enqueue body prio s
    | none => illegal s)

/-- FLUSH (R282). -/
def execFlush (s : State) : Host.Outcome State Fault Refusal :=
  .next (respond [statusOk] (flushQueue s))

/-- CONFIG (R283): the two shadows are written, and TICK latches them. -/
def execConfig (cfg : Byte) (s : State) : Host.Outcome State Fault Refusal :=
  .next (match readConfig cfg with
    | some (inv, speed) => respond [statusOk] { s with cfgInvSh := inv, cfgSpeedSh := speed }
    | none => illegal s)

/-- READ_RESULT (R284). -/
def execReadResult (s : State) : Host.Outcome State Fault Refusal :=
  .next (respond (statusOk :: resultBytes s) s)

/-- READ_STATUS (R285): the read acknowledges the carrier-loss notification. -/
def execReadStatus (s : State) : Host.Outcome State Fault Refusal :=
  .next (respond (statusOk :: statusBytes s) { s with clNotify := false })

/-- SET_SINK (R286). -/
def execSetSink (en : Byte) (s : State) : Host.Outcome State Fault Refusal :=
  .next (match readSink en with
    | some on => respond [statusOk] { s with sinkEn := on }
    | none => illegal s)

/-- READ_COUNTER (R287). -/
def execReadCounter (idx : Byte) (s : State) : Host.Outcome State Fault Refusal :=
  .next (match readIndex idx with
    | some c => respond (statusOk :: counterBytes c s) s
    | none => illegal s)

/-- The engine put back at its reset values (R70, R288): DISPATCH, the parameters and what the environment
supplies are not engine state and stay. R342 leaves tx_byte and rx_shift open: they are free values, fresh
at every RESET (log 1). -/
def resetEngine (s : State) : State :=
  { State.resetOf s.params with
    txByte := Config.resetTxByte s.params.drawSource s.draws
    rxShift := Config.resetRxShift s.params.drawSource s.draws, draws := s.draws + 1
    dispatch := s.dispatch, response := s.response, input := s.input, now := s.now }

/-- RESET (R288, R340). -/
def execReset (s : State) : Host.Outcome State Fault Refusal :=
  .next (respond [statusOk] (resetEngine s))

end Sys2Proof.Machine
end

