-- ==== Sys2Proof/Machine/Assembler.lean ====
section
/-! DEFINITION. The receive assembler (`42_receive_assembler.md` R190–R200). -/

namespace Sys2Proof.Machine

/-- complete (R196): a valid frame is counted, is a backoff event, is correlated and dispatched, in that
order; any other counts E5 and is discarded. -/
def complete (f : Frame) (s : State) : State :=
  if valid f then dispatchFrame f (correlate f (backoffEvent .msg (bump .rxFrames s)))
  else count .cksum s

/-- An opcode byte in the middle of a frame aborts it (R192, event E4). -/
def abortPartial (s : State) : State :=
  if s.asmState = .waitOpc then s else count .aborted s

/-- An opcode byte of a fixed class starts a frame of `n` bytes (R191, R192). -/
def startFixed (n : Byte) (b : Byte) (s : State) : State :=
  { abortPartial s with asmBuf := [b], asmExpect := n, asmState := .waitPayload }

/-- An opcode byte of the variable class starts a frame of a length still unknown (R191, R192). -/
def startVariable (b : Byte) (s : State) : State :=
  { abortPartial s with asmBuf := [b], asmExpect := 0x00#8, asmState := .waitLen }

/-- A data byte (R102): noise (R194, event E3), the length byte (R193, event E2), or payload and check
byte (R195). -/
def assembleData (b : Byte) (s : State) : State :=
  match s.asmState with
  | .waitOpc => count .noise s
  | .waitLen =>
    if b.toNat < 3 ∨ s.params.maxFrame < b.toNat then count .lenOverflow (asmReset s)
    else { s with asmBuf := s.asmBuf ++ [b], asmExpect := b, asmState := .waitPayload }
  | .waitPayload =>
    let s := { s with asmBuf := s.asmBuf ++ [b] }
    if s.asmBuf.length = s.asmExpect.toNat then asmReset (complete s.asmBuf s) else s

/-- One good character (R197). -/
def assembleByte (b : Byte) (s : State) : State :=
  match decodeLength b with
  | .fixed n => startFixed (BitVec.ofNat 8 n) b s
  | .variableLen => startVariable b s
  | .notOpcode => assembleData b s

/-- assemble (R197): an entry with a malformed stop bit resets the assembler whatever its byte
(R190, event E1). -/
def assemble (e : RxEntry) (s : State) : State :=
  if e.err then count .stopErr (asmReset s) else assembleByte e.byte s

end Sys2Proof.Machine
end

