-- ==== Sys2Proof/Machine/Polling.lean ====
section
/-! DEFINITION. The parts of POLL (`46_poll_cycle.md` R270–R275) that have no file of their own: the
carrier-loss check (`43_arbitration.md` R217) and the drain of RXB. -/

namespace Sys2Proof.Machine

/-- carrier_check (R217), event E13. -/
def carrierCheck (s : State) : State :=
  match s.carrierSeen, s.clDeadline with
  | false, some d =>
    if d ≤ s.now then
      { count .carrierLoss { s with clNotify := true } with
        clDeadline := some (s.now + s.params.carrierLossUs) }
    else s
  | _, _ => { s with carrierSeen := false, clDeadline := some (s.now + s.params.carrierLossUs) }

/-- Pop and assemble each of `es` in turn (R273). -/
def drainEntries (es : List RxEntry) (s : State) : State :=
  match es with
  | [] => { s with rxb := [] }
  | e :: rest => drainEntries rest (assemble e { s with rxb := rest })

/-- POLL's step 3 (R273): every entry of RXB, in the order TICK pushed them. -/
def drainRxb (s : State) : State := drainEntries s.rxb s

/-- POLL (R270): the five sub-steps in order. -/
def pollStep (s : State) : State :=
  drainNext (timeoutCheck (drainRxb (handleOutcome (carrierCheck s))))

end Sys2Proof.Machine
end

