-- ==== Sys2Proof/Machine/Uart.lean ====
section
/-! DEFINITION. The bit-level UART engine and collision detector: the parts of TICK
(`40_uart_engine.md` R140–R152). -/

namespace Sys2Proof.Machine

/-- R141: the configuration latch. -/
def latchConfig (s : State) : State :=
  { s with cfgInv := s.cfgInvSh, speedSel := s.cfgSpeedSh }

/-- R151: CollisionDetected lasts one tick. -/
def endCollision (s : State) : State :=
  if s.lineState = .collisionDetected then { s with lineState := .idle } else s

/-- R143: a waiting frame starts when the bus was available at the start of this tick. -/
def frameStart (av : Availability) (s : State) : State :=
  match s.txBitpos, s.txb with
  | none, b :: rest =>
    if av = .netAvailable then
      { s with txByte := b, txb := rest, txBitpos := some .start, lineState := .transmitting }
    else s
  | _, _ => s

/-- The logical bit a bit position drives (R140, R100): space, the data bit, mark. -/
def txLevel (byte : Byte) : TxBit → Level
  | .start => false
  | .data k => byte.getLsbD k.val
  | .stop => true

/-- The ten logical bits of a character, in the order of the line (R100): start, data bits 0 to 7, stop. -/
def characterBits (b : Byte) : List Level :=
  [false, b.getLsbD 0, b.getLsbD 1, b.getLsbD 2, b.getLsbD 3, b.getLsbD 4, b.getLsbD 5, b.getLsbD 6,
    b.getLsbD 7, true]

/-- R144: the collision detector's writes, event E6. -/
def collide (s : State) : State :=
  count .collision
    (backoffEvent .collision
      { s with lineState := .collisionDetected, txBitpos := none, txb := [], txOutcome := .collided })

/-- R145: the frame is done. -/
def frameDone (s : State) : State :=
  backoffEvent .msg { s with txBitpos := none, lineState := .idle, txOutcome := .done }

/-- R145: the bit after `p`, with no mismatch: the next bit, the next character back to back, or the end
of the frame. -/
def txAdvance (p : TxBit) (s : State) : State :=
  match p with
  | .start => { s with txBitpos := some (.data 0) }
  | .data k =>
    if h : k.val + 1 < 8 then { s with txBitpos := some (.data ⟨k.val + 1, h⟩) }
    else { s with txBitpos := some .stop }
  | .stop =>
    match s.txb with
    | b :: rest => { s with txByte := b, txb := rest, txBitpos := some .start }
    | [] => frameDone s

/-- The transmit branch (R142, R144, R145, R149): bit position `p`, logical sample `l`. -/
def transmit (p : TxBit) (l : Level) (s : State) : State :=
  let b := txLevel s.txByte p
  let s := { s with drive := xor b s.cfgInv }
  if l = b then txAdvance p s else collide s

/-- R147: the bit after data bit `k`. -/
def rxNext (k : Fin 8) : RxBit :=
  if h : k.val + 1 < 8 then .data ⟨k.val + 1, h⟩ else .stop

/-- The receive branch (R142, R146–R149): the line is released at mark and the sample is read. -/
def receive (l : Level) (s : State) : State :=
  let s := { s with drive := xor true s.cfgInv }
  match s.rxBitpos with
  | none =>
    if s.prevL = true ∧ l = false then { s with rxBitpos := some (.data 0), rxShift := 0x00#8 } else s
  | some (.data k) => { s with rxShift := setBit s.rxShift k.val l, rxBitpos := some (rxNext k) }
  | some .stop => { pushRxb { err := !l, byte := s.rxShift } s with rxBitpos := none }

/-- R150, cases (2) and (3): whether a tick of the receive branch is active. -/
def receiveActive (l : Level) (s : State) : Bool := s.rxBitpos.isSome || !l

/-- R150, R152: the end of every tick. -/
def endTick (l : Level) (active : Bool) (s : State) : State :=
  let s := { s with prevL := l }
  if active then { s with idleCount := 0#16, carrierSeen := true }
  else { s with idleCount := satSucc s.idleCount }

/-- The branch of a tick (R142): transmit if a bit position stands after the frame-start check, and
receive otherwise. -/
def tickBranch (l : Level) (s : State) : State :=
  match s.txBitpos with
  | some p => endTick l true (transmit p l s)
  | none => endTick l (receiveActive l s) (receive l s)

/-- TICK (R140): `sample` is the physical level. Avail() is read after the latch and before any other
write (R143). -/
def tickStep (sample : Level) (s : State) : State :=
  let s := latchConfig s
  tickBranch (xor sample s.cfgInv) (frameStart (avail s) (endCollision s))

end Sys2Proof.Machine
end

