-- ==== Sys2Proof/Machine/Ports.lean ====
section
/-! DEFINITION. The meanings of the two port operations: TICK (`40_uart_engine.md` R140) and POLL
(`46_poll_cycle.md` R270). Neither returns a response. -/

namespace Sys2Proof.Machine

/-- TICK (R140): `sample` is the physical line level of this bit interval. -/
def execTick (sample : Level) (s : State) : Host.Outcome State Fault Refusal := .next (tickStep sample s)

/-- POLL (R270), at the clock value of the step. -/
def execPoll (s : State) : Host.Outcome State Fault Refusal := .next (pollStep s)

end Sys2Proof.Machine
end

