-- ==== Sys2Proof/Machine/WireClasses.lean ====
section
/-! DEFINITION. The meanings of the wire rows of the opcode table: what the receive assembler does with one
good character of each class (`42_receive_assembler.md` R191–R195). No record issues them: they run inside
POLL's step 3, on the entries of RXB (R200, R273, log 6). -/

namespace Sys2Proof.Machine

/-- OPC_LEN2 (R191, R192): a 2-byte frame starts. -/
def execOpcLen2 (code : BitVec 5) (s : State) : Host.Outcome State Fault Refusal :=
  .next (startFixed 0x02#8 (codeOf (.opcLen2 code)) s)

/-- OPC_LEN4 (R191, R192): a 4-byte frame starts. -/
def execOpcLen4 (code : BitVec 5) (s : State) : Host.Outcome State Fault Refusal :=
  .next (startFixed 0x04#8 (codeOf (.opcLen4 code)) s)

/-- OPC_LEN6 (R191, R192): a 6-byte frame starts. -/
def execOpcLen6 (code : BitVec 5) (s : State) : Host.Outcome State Fault Refusal :=
  .next (startFixed 0x06#8 (codeOf (.opcLen6 code)) s)

/-- OPC_LENVAR (R191, R192): a frame starts whose length byte follows. -/
def execOpcLenVar (code : BitVec 5) (s : State) : Host.Outcome State Fault Refusal :=
  .next (startVariable (codeOf (.opcLenVar code)) s)

/-- DATA (R193–R195): length byte, payload, check byte or noise, by the assembler's state. -/
def execData (value : BitVec 7) (s : State) : Host.Outcome State Fault Refusal :=
  .next (assembleData (codeOf (.data value)) s)

end Sys2Proof.Machine
end

