-- ==== Sys2Proof/Machine/Dispatch.lean ====
section
/-! DEFINITION. The dispatch of an operation to its meaning, one arm per constructor of `Instr`. -/

namespace Sys2Proof.Machine

def exec (i : Instr) (s : State) : Host.Outcome State Fault Refusal :=
  match i with
  | .opcLen2 code => Sys2Proof.Machine.execOpcLen2 code s
  | .opcLen4 code => Sys2Proof.Machine.execOpcLen4 code s
  | .opcLen6 code => Sys2Proof.Machine.execOpcLen6 code s
  | .opcLenVar code => Sys2Proof.Machine.execOpcLenVar code s
  | .data value => Sys2Proof.Machine.execData value s
  | .submit flags body => Sys2Proof.Machine.execSubmit flags body s
  | .flush => Sys2Proof.Machine.execFlush s
  | .config cfg => Sys2Proof.Machine.execConfig cfg s
  | .readResult => Sys2Proof.Machine.execReadResult s
  | .readStatus => Sys2Proof.Machine.execReadStatus s
  | .setSink en => Sys2Proof.Machine.execSetSink en s
  | .readCounter idx => Sys2Proof.Machine.execReadCounter idx s
  | .reset => Sys2Proof.Machine.execReset s
  | .tick sample => Sys2Proof.Machine.execTick sample s
  | .poll => Sys2Proof.Machine.execPoll s

end Sys2Proof.Machine
end

