-- ==== Sys2Proof/Machine/Fetch.lean ====
section
/-! DEFINITION. Taking a record off the operation stream, the engine's counterpart of an instruction fetch
(`30_encoding.md` R110: one record is one step). -/

namespace Sys2Proof.Machine

/-- The state in which a record's operation runs: the record is taken, its clock value is the step's, and
no response has been given yet (R110, R111). -/
def issue (r : OpRecord) (rest : List OpRecord) (s : State) : State :=
  { s with input := rest, now := r.now, response := [] }

/-- What a record that is no operation does: a host record is ILLEGAL (R280, R289); a record of another
port cannot be written, and is refused by name (R115). -/
def reject (port : Port) (e : DecodeError) (s : State) : Host.Outcome State Fault Refusal :=
  match port with
  | .host => .next (illegal s)
  | .timer | .polling => .refused (.notAPortRecord e)

end Sys2Proof.Machine
end

