-- ==== Sys2Proof/Machine/Step.lean ====
section
/-! DEFINITION. One step: the next record of the operation stream is taken and its operation runs
(`30_encoding.md` R110, `20_memory.md` R88). -/

namespace Sys2Proof.Machine

/-- One step (R88, R110). With no record issued nothing happens (R325). -/
def step (s : State) : Host.Outcome State Fault Refusal :=
  match s.input with
  | [] => .next s
  | r :: rest =>
    match decode r with
    | .ok i => exec i (issue r rest s)
    | .error e => reject r.port e (issue r rest s)

/-- `s` with the instruction of bits `w` where the next step runs it. A record is issued as the next one, at
the current clock value. A wire byte is run by POLL alone (R200, R273): it stands as the one entry of RXB, and
a POLL is issued as the next record (log 6). -/
def State.withFetchWord (s : State) (nbits w : Nat) : State :=
  match tableWritten nbits w s.now with
  | .record r => { s with input := r :: s.input }
  | .character b =>
    { s with
      rxb := [{ err := false, byte := b }]
      input := { port := .polling, code := 0x11#8, operands := [], now := s.now } :: s.input }

end Sys2Proof.Machine
end

