-- ==== Sys2Proof/Safety.lean ====
section
/-! DEFINITION. What a good state of the engine is, in the terms the claims use: the invariants of
`10_state.md` R69 with what makes them inductive, the states a run can reach, and sequences of steps. -/

namespace Sys2Proof.Machine

/-! ### Invariants -/

/-- The six invariants of R69, in its order. -/
structure EngineInvariant (s : State) : Prop where
  transmitting : s.lineState = .transmitting ↔ s.txBitpos ≠ none
  sending : s.txBitpos ≠ none ∨ s.txb ≠ [] → s.inflight ≠ none ∧ s.txOutcome = .none
  outcome : s.txOutcome ≠ .none → s.inflight ≠ none ∧ s.txb = [] ∧ s.txBitpos = none
  capacity : s.txq.length + (if s.inflight = none then 0 else 1) ≤ s.params.txqCap
  halfDuplex : s.txBitpos ≠ none → s.rxBitpos = none
  assembler : s.asmBuf.length ≤ s.params.maxFrame ∧ (s.asmState = .waitOpc ↔ s.asmBuf = [])

/-- What the assembler can hold in each of its states (R191–R195): nothing; one opcode of the variable
class; the beginning of a frame whose length is known, is legal, and is not reached yet. -/
def AssemblerShape (s : State) : Prop :=
  match s.asmState with
  | .waitOpc => s.asmBuf = [] ∧ s.asmExpect = 0x00#8
  | .waitLen => (∃ opc, s.asmBuf = [opc] ∧ decodeLength opc = .variableLen) ∧ s.asmExpect = 0x00#8
  | .waitPayload =>
    (∃ opc rest, s.asmBuf = opc :: rest ∧ opc.getLsbD 7 = true ∧ (∀ b ∈ rest, b.getLsbD 7 = false) ∧
      (decodeLength opc = .variableLen → rest ≠ [] ∧ 3 ≤ s.asmExpect.toNat)) ∧
    frameLength s.asmBuf = some s.asmExpect.toNat ∧
    s.asmBuf.length < s.asmExpect.toNat ∧ s.asmExpect.toNat ≤ s.params.maxFrame

/-- A slot the queue may own (R52, R235): a well-shaped valid frame, and attempts within the ceiling. -/
structure GoodSlot (p : Params) (slot : Slot) : Prop where
  shape : shapeOK p.maxFrame slot.frame = true
  checked : valid slot.frame = true
  attempts : slot.attempts.toNat ≤ p.maxRetry

/-- The engine's whole invariant: R13, R69, and the bounds of R14, R47, R52, R53, R56, R57, R61. -/
structure Good (s : State) : Prop where
  params : s.params.Ok
  engine : EngineInvariant s
  shape : AssemblerShape s
  queued : ∀ slot ∈ s.txq, GoodSlot s.params slot
  flying : ∀ slot, s.inflight = some slot → GoodSlot s.params slot
  owned : s.inflight ≠ none → s.txBitpos ≠ none ∨ s.txb ≠ [] ∨ s.txOutcome ≠ .none
  txbBound : s.txb.length ≤ s.params.txbCap
  rxbBound : s.rxb.length ≤ s.params.rxbCap
  drawn : s.backoffR.toNat ≤ s.params.backoffRandMax
  window : ∀ r, s.pending = some r → r.deadlineUs = r.sentUs + s.params.respTimeoutUs

/-! ### Runs -/

/-- The states an instance with parameters `p` can reach: from reset, the agents issue records in any
order (R11, R88) and each step takes the next one. -/
inductive Reachable (p : Params) : State → Prop where
  | reset : Reachable p (State.resetOf p)
  | issued (s : State) (rs : List OpRecord) : Reachable p s → Reachable p { s with input := s.input ++ rs }
  | stepped (s t : State) : Reachable p s → step s = .next t → Reachable p t

/-- A sequence of TICKs, one for each physical sample. -/
def afterTicks (samples : List Level) (s : State) : Host.Outcome State Fault Refusal :=
  match samples with
  | [] => .next s
  | x :: rest => match exec (.tick x) s with
    | .next t => afterTicks rest t
    | .fault f => .fault f
    | .refused r => .refused r

/-- A sequence of operations, one step's effect after another. -/
def afterOps (ops : List Instr) (s : State) : Host.Outcome State Fault Refusal :=
  match ops with
  | [] => .next s
  | i :: rest => match exec i s with
    | .next t => afterOps rest t
    | .fault f => .fault f
    | .refused r => .refused r

/-- The physical levels of logical bits under polarity `inv` (R18). -/
def onLine (inv : Bool) (bits : List Level) : List Level := bits.map fun l => xor l inv

/-- The logical bits of a byte sequence, characters back to back (R101). -/
def bitsOf (f : Frame) : List Level := f.flatMap characterBits

/-! ### What two states may differ in -/

/-- The two states agree but for the two elements whose reset value is unspecified (R342), and for those
only where no character is under way (R40, R42). -/
structure SameButUnspecified (s t : State) : Prop where
  same : t = { s with txByte := t.txByte, rxShift := t.rxShift }
  sending : s.txBitpos ≠ none → t.txByte = s.txByte
  receiving : s.rxBitpos ≠ none → t.rxShift = s.rxShift

/-- The state seen with the other polarity (R18): the configured flag, the flag in force and the driven
level are inverted. -/
def mirror (s : State) : State :=
  { s with cfgInvSh := !s.cfgInvSh, cfgInv := !s.cfgInv, drive := !s.drive }

/-- The outcome with `f` applied to a next state. -/
def mapNext (f : State → State) : Host.Outcome State Fault Refusal → Host.Outcome State Fault Refusal
  | .next s => .next (f s)
  | .fault e => .fault e
  | .refused r => .refused r

/-- R273: assemble applied to entries of RXB in order. -/
def assembleAll (es : List RxEntry) (s : State) : State := es.foldl (fun s e => assemble e s) s

/-- The entry is the byte that completes a valid frame (R195, R196). -/
structure CompletesValidFrame (e : RxEntry) (s : State) : Prop where
  good : e.err = false
  isData : e.byte.getLsbD 7 = false
  inPayload : s.asmState = .waitPayload
  last : s.asmBuf.length + 1 = s.asmExpect.toNat
  checked : valid (s.asmBuf ++ [e.byte]) = true

/-- Some entry of `es`, after those before it, completes a valid frame that answers `p` (R196, R252). -/
def Answered (es : List RxEntry) (p : PendingResponse) (s : State) : Prop :=
  ∃ before e later, es = before ++ e :: later ∧
    CompletesValidFrame e (assembleAll before s) ∧
    let f : Frame := (assembleAll before s).asmBuf ++ [e.byte]
    f.head? = some p.replyOpc ∧ matchKey s.params.matchKey f = p.corrId

/-- What POLL's step 2 leaves (R272), case by case: no outcome; DONE of a frame without and with a reply to
expect (R234, R250, R251); COLLIDED up to and above the retry ceiling (R235, R236). -/
inductive OutcomeHandled (s : State) : State → Prop where
  | nothing : s.txOutcome = .none → OutcomeHandled s s
  | sent (slot : Slot) : s.txOutcome = .done → s.inflight = some slot →
      replySpec s.params.replySpec slot.frame = none →
      OutcomeHandled s { s with
        inflight := none, txOutcome := .none, resultCode := .sent, resultSeq := s.resultSeq + 1#8
        cnt := { s.cnt with txFrames := s.cnt.txFrames + 1#16 } }
  | armed (slot : Slot) (ro cid : Byte) : s.txOutcome = .done → s.inflight = some slot →
      replySpec s.params.replySpec slot.frame = some (ro, cid) →
      OutcomeHandled s { s with
        inflight := none, txOutcome := .none, resultCode := .sent, resultSeq := s.resultSeq + 1#8
        cnt := { s.cnt with
          txFrames := s.cnt.txFrames + 1#16
          replyTimeout := if s.pending = none then s.cnt.replyTimeout else s.cnt.replyTimeout + 1#16 }
        pending := some
          { replyOpc := ro, corrId := cid, sentUs := s.now
            deadlineUs := s.now + s.params.respTimeoutUs } }
  | requeued (slot again : Slot) : s.txOutcome = .collided → s.inflight = some slot →
      slot.attempts.toNat + 1 ≤ s.params.maxRetry → again.attempts.toNat = slot.attempts.toNat + 1 →
      again = { slot with attempts := again.attempts, lastFail := .collision } →
      OutcomeHandled s { s with
        inflight := none, txOutcome := .none, txq := s.txq ++ [again]
        resultCode := .collidedRetrying, resultSeq := s.resultSeq + 1#8 }
  | dropped (slot : Slot) : s.txOutcome = .collided → s.inflight = some slot →
      slot.attempts.toNat < 255 → s.params.maxRetry < slot.attempts.toNat + 1 →
      OutcomeHandled s { s with
        inflight := none, txOutcome := .none, resultCode := .collidedDropped
        resultSeq := s.resultSeq + 1#8
        cnt := { s.cnt with dropped := s.cnt.dropped + 1#16 } }

/-- The good characters of a byte sequence, as RXB entries. -/
def goodEntries (f : Frame) : List RxEntry := f.map fun b => { err := false, byte := b }

/-! ### The host's records -/

/-- The host command records that are not ILLEGAL: R111's layouts with R114's checks, code by code, for an
engine whose frames have at most `maxFrame` bytes. -/
inductive LegalHostRecord (maxFrame : Nat) : Byte → List Byte → Prop where
  | submit (flags n : Byte) (body : Frame) : flags.toNat < 2 → body.length = n.toNat → 1 ≤ n.toNat →
      n.toNat ≤ maxFrame - 1 → LegalHostRecord maxFrame 0x01#8 (flags :: n :: body)
  | flush : LegalHostRecord maxFrame 0x02#8 []
  | config (cfg : Byte) : cfg.toNat < 4 → LegalHostRecord maxFrame 0x03#8 [cfg]
  | readResult : LegalHostRecord maxFrame 0x04#8 []
  | readStatus : LegalHostRecord maxFrame 0x05#8 []
  | setSink (en : Byte) : en.toNat < 2 → LegalHostRecord maxFrame 0x06#8 [en]
  | readCounter (idx : Byte) : idx.toNat ≤ 8 → LegalHostRecord maxFrame 0x07#8 [idx]
  | reset : LegalHostRecord maxFrame 0x08#8 []

/-- The operations the host issues (R110, R111). -/
def isHostCommand (i : Instr) : Prop := portOf i = some .host

/-- SUBMITs of a list of bodies one after another (R238), with the statuses they return. -/
def afterSubmits (bodies : List Frame) (s : State) : List Byte × State :=
  match bodies with
  | [] => ([], s)
  | b :: rest => match exec (.submit 0x00#8 b) s with
    | .next t => let r := afterSubmits rest t; (t.response ++ r.1, r.2)
    | .fault _ => ([], s)
    | .refused _ => ([], s)

end Sys2Proof.Machine
end

