-- ==== Sys2Proof/Certificates/Slice0/Obligations.lean ====
section
/-! DEFINITION. The statements for the provers. Each formalises a numbered rule of `spec/` or says what it
is derived from; none is about a program. -/

open Sys2Proof Sys2Proof.Machine

/-! ### Records and steps -/

/-- Decoding what an operation is written in (its record, or for a wire row the byte) gives the operation back,
for every operation and operand the encodings admit (R102, R103, R111). -/
def Obligations.DecodeOfRecordIsTheOperation : Prop :=
  ∀ (i : Instr) (now : Nat), i.encodable = true → decodeWritten (writtenOf i now) = .ok i

/-- A record or wire byte that decodes is the one writing of its operation: no operation has two encodings. -/
def Obligations.DecodedRecordIsTheEncodedOne : Prop :=
  ∀ (w : Written) (i : Instr), decodeWritten w = .ok i → i.encodable = true ∧ ∃ now, w = writtenOf i now

/-- Words written out from the encodings of R103 and R111 decode to what they stand for. -/
def Obligations.SpecWordsDecode : Prop :=
  decodeWire 0b10110010#8 = .opcLen4 0b10010#5 ∧
  decodeWire 0b10000001#8 = .opcLen2 0b00001#5 ∧
  decodeWire 0b11000000#8 = .opcLen6 0b00000#5 ∧
  decodeWire 0b11100111#8 = .opcLenVar 0b00111#5 ∧
  decodeWire 0b01001101#8 = .data 0b1001101#7 ∧
  decodeHost 0x01#8 [0x00#8, 0x03#8, 0xB2#8, 0x00#8, 0x00#8] = .ok (.submit 0x00#8 [0xB2#8, 0x00#8, 0x00#8]) ∧
  decodeHost 0x03#8 [0x01#8] = .ok (.config 0x01#8) ∧
  decodeTimer 0x10#8 [0x01#8] = .ok (.tick true) ∧
  decodePolling 0x11#8 [] = .ok .poll

/-- A step takes the next record and runs the operation it decodes to, with the record's clock value and no
response given yet. -/
def Obligations.StepRunsTheDecodedOperation : Prop :=
  ∀ (s : State) (r : OpRecord) (rest : List OpRecord) (i : Instr),
    s.input = r :: rest → decode r = .ok i →
      step s = exec i { s with input := rest, now := r.now, response := [] }

/-- R200, R273: the wire rows run inside POLL. A step that takes a POLL record leaves in the assembler's
elements, in DISPATCH, in the receive counters and in the backoff event what the meanings of the wire rows of
the good characters in RXB, run in order, leave there. -/
def Obligations.PollStepRunsTheWireRows : Prop :=
  ∀ (s : State) (r : OpRecord) (rest : List OpRecord) (bs : Frame),
    s.input = r :: rest → decode r = .ok .poll → s.rxb = goodEntries bs →
      ∃ t u, step s = .next t ∧ afterOps (bs.map decodeWire) s = .next u ∧
        t.asmState = u.asmState ∧ t.asmBuf = u.asmBuf ∧ t.asmExpect = u.asmExpect ∧
        t.dispatch = u.dispatch ∧ t.lastEvent = u.lastEvent ∧ t.backoffR = u.backoffR ∧ t.draws = u.draws ∧
        t.cnt.rxFrames = u.cnt.rxFrames ∧ t.cnt.cksumErr = u.cnt.cksumErr ∧
        t.cnt.framingErr = u.cnt.framingErr

/-- R325: with no record issued, a step changes nothing. -/
def Obligations.NoRecordNoChange : Prop :=
  ∀ s : State, s.input = [] → step s = .next s

/-- R301: no event halts the engine. A step always goes on, but on a record that R115 says cannot be
written (a timer or polling record of another shape). -/
def Obligations.NothingIsFatal : Prop :=
  ∀ s : State,
    (∃ t, step s = .next t) ∨
    (∃ r rest e, s.input = r :: rest ∧ r.port ≠ .host ∧ decode r = .error e ∧
      step s = .refused (.notAPortRecord e))

/-- R289, R114: a host record is ILLEGAL in exactly R114's cases. It then changes no state (the record is
consumed) and answers the one byte 0x0F, which no other host record answers. -/
def Obligations.IllegalHostRecordChangesNothing : Prop :=
  ∀ (s : State) (code : Byte) (operands : List Byte) (now : Nat) (rest : List OpRecord),
    s.input = { port := .host, code := code, operands := operands, now := now } :: rest →
      (¬ LegalHostRecord s.params.maxFrame code operands →
        step s = .next { s with input := rest, now := now, response := [0x0F#8] }) ∧
      (LegalHostRecord s.params.maxFrame code operands →
        ∃ t status data, step s = .next t ∧ t.response = status :: data ∧ status ≠ 0x0F#8)

/-! ### Frame codec -/

/-- R106, R174 and the spec's own inference there: the last byte of an encoded frame is the complement of the
XOR of the others, the XOR of the whole is 0xFF, and after an opcode and data bytes it is a data byte. -/
def Obligations.CheckByteClosesTheFrame : Prop :=
  ∀ body : Frame,
    (∃ chk, encodeFrame body = body ++ [chk] ∧ chk = ~~~ xorAcc body) ∧
    xorAcc (encodeFrame body) = 0xFF#8 ∧
    ∀ opc rest, body = opc :: rest → opc.getLsbD 7 = true → (∀ b ∈ rest, b.getLsbD 7 = false) →
      (checkByte body).getLsbD 7 = false

/-- R178, the spec's own inference from R174 to R177: decoding an encoded well-formed body gives the body back.
-/
def Obligations.FrameRoundTrip : Prop :=
  ∀ (maxFrame : Nat) (b : Frame), wellFormedBody maxFrame b = true →
    decodeFrame maxFrame (encodeFrame b) = some b

/-- R179, the spec's own inference from R173: corrupting one byte of a valid frame is always detected, and a
frame of the same length is valid exactly when the differences of its bytes cancel, so that two bytes
corrupted by the same difference are never detected. -/
def Obligations.SingleByteCorruptionIsDetected : Prop :=
  ∀ (f : Frame), valid f = true →
    (∀ (i : Nat) (b : Byte), f[i]? ≠ none → f[i]? ≠ some b → valid (f.set i b) = false) ∧
    (∀ (i j : Nat) (a b delta : Byte), i ≠ j → f[i]? = some a → f[j]? = some b →
      valid ((f.set i (a ^^^ delta)).set j (b ^^^ delta)) = true) ∧
    (∀ g : Frame, g.length = f.length →
      (valid g = true ↔ xorAcc (List.zipWith (· ^^^ ·) f g) = 0x00#8))

/-- R170: the length class of every byte. -/
def Obligations.LengthClassOfEveryByte : Prop :=
  ∀ b : Byte,
    decodeLength b =
      if b.toNat < 0x80 then .notOpcode
      else if b.toNat < 0xA0 then .fixed 2
      else if b.toNat < 0xC0 then .fixed 4
      else if b.toNat < 0xE0 then .fixed 6
      else .variableLen

/-- R230: the body check, spelled out. -/
def Obligations.WellFormedBodySpelledOut : Prop :=
  ∀ (maxFrame : Nat) (b : Frame), 6 ≤ maxFrame → maxFrame ≤ 127 →
    (wellFormedBody maxFrame b = true ↔
      ∃ opc rest, b = opc :: rest ∧ opc.getLsbD 7 = true ∧ (∀ d ∈ rest, d.getLsbD 7 = false) ∧
        ((∃ n, decodeLength opc = .fixed n ∧ b.length = n - 1) ∨
          (decodeLength opc = .variableLen ∧
            ∃ len, rest.head? = some len ∧ len.toNat = b.length + 1 ∧ 3 ≤ len.toNat ∧
              len.toNat ≤ maxFrame)))

/-! ### Receive assembler -/

/-- R191, R192: an opcode byte starts a frame of its class, whatever the assembler was doing; a frame in
progress counts one framing error. Nothing else changes. -/
def Obligations.OpcodeByteStartsAFrame : Prop :=
  ∀ (m : BitVec 5) (s : State),
    let cnt := if s.asmState = .waitOpc then s.cnt
      else { s.cnt with framingErr := s.cnt.framingErr + 1#16 }
    exec (.opcLen2 m) s = .next { s with
      cnt := cnt, asmBuf := [BitVec.ofNat 8 (0x80 + m.toNat)], asmExpect := 2#8, asmState := .waitPayload } ∧
    exec (.opcLen4 m) s = .next { s with
      cnt := cnt, asmBuf := [BitVec.ofNat 8 (0xA0 + m.toNat)], asmExpect := 4#8, asmState := .waitPayload } ∧
    exec (.opcLen6 m) s = .next { s with
      cnt := cnt, asmBuf := [BitVec.ofNat 8 (0xC0 + m.toNat)], asmExpect := 6#8, asmState := .waitPayload } ∧
    exec (.opcLenVar m) s = .next { s with
      cnt := cnt, asmBuf := [BitVec.ofNat 8 (0xE0 + m.toNat)], asmExpect := 0#8, asmState := .waitLen }

/-- R193, R194 and the incomplete case of R195: noise, a length byte, and a payload byte that does not
complete the frame. Nothing else changes. -/
def Obligations.DataByteByAssemblerState : Prop :=
  ∀ (v : BitVec 7) (s : State),
    let b : Byte := BitVec.ofNat 8 v.toNat
    let framing := { s.cnt with framingErr := s.cnt.framingErr + 1#16 }
    (s.asmState = .waitOpc → exec (.data v) s = .next { s with cnt := framing }) ∧
    (s.asmState = .waitLen → v.toNat < 3 ∨ s.params.maxFrame < v.toNat →
      exec (.data v) s = .next { s with
        cnt := framing, asmState := .waitOpc, asmBuf := [], asmExpect := 0#8 }) ∧
    (s.asmState = .waitLen → 3 ≤ v.toNat → v.toNat ≤ s.params.maxFrame →
      exec (.data v) s = .next { s with
        asmBuf := s.asmBuf ++ [b], asmExpect := b, asmState := .waitPayload }) ∧
    (s.asmState = .waitPayload → s.asmBuf.length + 1 ≠ s.asmExpect.toNat →
      exec (.data v) s = .next { s with asmBuf := s.asmBuf ++ [b] })

/-- R196, R252, R257: the byte that completes a frame. A frame whose check byte fails is counted and
discarded; a valid one is counted, is a MSG backoff event, settles the reply it answers, and is emitted
when a consumer is registered. The assembler is reset either way, and nothing else changes. -/
def Obligations.CompletedFrameIsCheckedAndDelivered : Prop :=
  ∀ (v : BitVec 7) (s : State),
    s.asmState = .waitPayload → s.asmBuf.length + 1 = s.asmExpect.toNat →
    let f : Frame := s.asmBuf ++ [BitVec.ofNat 8 v.toNat]
    (xorAcc f ≠ 0xFF#8 ∨ f.length < 2 →
      exec (.data v) s = .next { s with
        cnt := { s.cnt with cksumErr := s.cnt.cksumErr + 1#16 }
        asmState := .waitOpc, asmBuf := [], asmExpect := 0#8 }) ∧
    (xorAcc f = 0xFF#8 → 2 ≤ f.length →
      ∃ answered : Bool,
        (answered = true ↔ ∃ p, s.pending = some p ∧ f.head? = some p.replyOpc ∧
          matchKey s.params.matchKey f = p.corrId) ∧
        exec (.data v) s = .next { s with
          cnt := { s.cnt with rxFrames := s.cnt.rxFrames + 1#16 }
          lastEvent := .msg, backoffR := draw s, draws := s.draws + 1
          resultCode := if answered then .replyReceived else s.resultCode
          resultSeq := if answered then s.resultSeq + 1#8 else s.resultSeq
          pending := if answered then none else s.pending
          dispatch := if s.sinkEn then s.dispatch ++ [f] else s.dispatch
          asmState := .waitOpc, asmBuf := [], asmExpect := 0#8 })

/-- The wire rows of the opcode table are the assembler's treatment of a good character (R197): the meaning
of each is what POLL does with that byte. -/
def Obligations.WireRowsAreTheAssembler : Prop :=
  ∀ (b : Byte) (s : State), exec (decodeWire b) s = .next (assemble { err := false, byte := b } s)

/-- R190, event E1: an entry with a malformed stop bit resets the assembler whatever it was doing and whatever
the byte, and counts one framing error; nothing else changes. So does the POLL that finds it in RXB. -/
def Obligations.ErrorEntryResetsTheAssembler : Prop :=
  ∀ (b : Byte) (s : State),
    assemble { err := true, byte := b } s = { s with
      asmState := .waitOpc, asmBuf := [], asmExpect := 0#8
      cnt := { s.cnt with framingErr := s.cnt.framingErr + 1#16 } } ∧
    (s.rxb = [{ err := true, byte := b }] →
      ∃ t, exec .poll s = .next t ∧ t.asmState = .waitOpc ∧ t.asmBuf = [] ∧ t.asmExpect = 0#8 ∧
        t.cnt.framingErr = s.cnt.framingErr + 1#16 ∧ t.cnt.rxFrames = s.cnt.rxFrames ∧
        t.cnt.cksumErr = s.cnt.cksumErr ∧ t.dispatch = s.dispatch ∧ t.lastEvent = s.lastEvent)

/-- The bytes of a well-shaped frame, handed one by one to an assembler waiting for an opcode, complete
exactly that frame (R191 to R196): counted once, emitted once when it is valid and a consumer is
registered, and with no framing error. -/
def Obligations.FrameBytesCompleteTheFrame : Prop :=
  ∀ (s : State) (f : Frame),
    s.params.maxFrame ≤ 127 → s.asmState = .waitOpc → shapeOK s.params.maxFrame f = true →
      ∃ t, afterOps (f.map decodeWire) s = .next t ∧
        t.asmState = .waitOpc ∧ t.asmBuf = [] ∧ t.asmExpect = 0#8 ∧
        t.cnt.framingErr = s.cnt.framingErr ∧
        (valid f = true →
          t.cnt.rxFrames = s.cnt.rxFrames + 1#16 ∧ t.cnt.cksumErr = s.cnt.cksumErr ∧
          t.dispatch = if s.sinkEn then s.dispatch ++ [f] else s.dispatch) ∧
        (valid f = false →
          t.cnt.rxFrames = s.cnt.rxFrames ∧ t.cnt.cksumErr = s.cnt.cksumErr + 1#16 ∧
          t.dispatch = s.dispatch)

/-! ### TICK -/

/-- R141, R152 and the timer context's line of R323: what every TICK leaves. It latches the configuration,
records the sample, and writes nothing but the timer context's elements. -/
def Obligations.TickLatchesAndKeepsTheRest : Prop :=
  ∀ (x : Level) (s : State), ∃ t, exec (.tick x) s = .next t ∧
    t.cfgInv = s.cfgInvSh ∧ t.speedSel = s.cfgSpeedSh ∧ t.prevL = xor x s.cfgInvSh ∧
    t.cnt = { s.cnt with collision := t.cnt.collision, rxOverrun := t.cnt.rxOverrun } ∧
    t = { s with
      cfgInv := t.cfgInv, speedSel := t.speedSel, lineState := t.lineState, txBitpos := t.txBitpos
      txByte := t.txByte, rxBitpos := t.rxBitpos, rxShift := t.rxShift, prevL := t.prevL, drive := t.drive
      idleCount := t.idleCount, lastEvent := t.lastEvent, backoffR := t.backoffR, draws := t.draws
      txOutcome := t.txOutcome, carrierSeen := t.carrierSeen, txb := t.txb, rxb := t.rxb, cnt := t.cnt }

/-- R145, R149: a TICK in the middle of a character that samples the bit it drives moves on to the next bit,
to the next character back to back, or to the end of the frame. -/
def Obligations.TickSendsTheNextBit : Prop :=
  ∀ (s : State) (b : Level),
    s.lineState = .transmitting →
    let sent : State := { s with
      cfgInv := s.cfgInvSh, speedSel := s.cfgSpeedSh, drive := xor b s.cfgInvSh, prevL := b
      idleCount := 0#16, carrierSeen := true }
    (s.txBitpos = some .start → b = false →
      exec (.tick (xor b s.cfgInvSh)) s = .next { sent with txBitpos := some (.data 0) }) ∧
    (∀ k : Fin 8, s.txBitpos = some (.data k) → b = s.txByte.getLsbD k.val →
      ∃ q, txBitNumber q = k.val + 2 ∧
        exec (.tick (xor b s.cfgInvSh)) s = .next { sent with txBitpos := some q }) ∧
    (∀ c rest, s.txBitpos = some .stop → b = true → s.txb = c :: rest →
      exec (.tick (xor b s.cfgInvSh)) s =
        .next { sent with txByte := c, txb := rest, txBitpos := some .start }) ∧
    (s.txBitpos = some .stop → b = true → s.txb = [] →
      exec (.tick (xor b s.cfgInvSh)) s =
        .next { sent with
          txBitpos := none, lineState := .idle, txOutcome := .done
          lastEvent := .msg, backoffR := draw s, draws := s.draws + 1 })

/-- R144: a TICK that samples other than the bit it drives, whichever bit that is, is a collision; whatever
the next TICK samples, it releases the line. -/
def Obligations.MismatchIsACollision : Prop :=
  ∀ (s : State) (p : TxBit),
    s.lineState = .transmitting → s.txBitpos = some p →
    let b : Level := match p with
      | .start => false
      | .data k => s.txByte.getLsbD k.val
      | .stop => true
    let t : State := { s with
      cfgInv := s.cfgInvSh, speedSel := s.cfgSpeedSh, drive := xor b s.cfgInvSh, prevL := !b
      idleCount := 0#16, carrierSeen := true
      lineState := .collisionDetected, txBitpos := none, txb := [], txOutcome := .collided
      lastEvent := .collision, backoffR := draw s, draws := s.draws + 1
      cnt := { s.cnt with collision := s.cnt.collision + 1#16 } }
    exec (.tick (!xor b s.cfgInvSh)) s = .next t ∧
    ∀ x, ∃ u, exec (.tick x) t = .next u ∧ u.drive = !s.cfgInvSh

/-- R143: a frame waiting in TXB starts in the first TICK that finds the bus available, and its start bit is
driven, and compared, in that tick; in any other TICK it waits. -/
def Obligations.FrameStartsWhenTheBusIsAvailable : Prop :=
  ∀ (s : State) (c : Byte) (rest : Frame),
    s.txBitpos = none → s.txb = c :: rest →
    (avail s = .netAvailable →
      exec (.tick s.cfgInvSh) s = .next { s with
        cfgInv := s.cfgInvSh, speedSel := s.cfgSpeedSh, drive := s.cfgInvSh, prevL := false
        idleCount := 0#16, carrierSeen := true
        lineState := .transmitting, txBitpos := some (.data 0), txByte := c, txb := rest } ∧
      exec (.tick (!s.cfgInvSh)) s = .next { s with
        cfgInv := s.cfgInvSh, speedSel := s.cfgSpeedSh, drive := s.cfgInvSh, prevL := true
        idleCount := 0#16, carrierSeen := true
        lineState := .collisionDetected, txBitpos := none, txByte := c, txb := [], txOutcome := .collided
        lastEvent := .collision, backoffR := draw s, draws := s.draws + 1
        cnt := { s.cnt with collision := s.cnt.collision + 1#16 } }) ∧
    (avail s ≠ .netAvailable →
      ∀ x, ∃ t, exec (.tick x) s = .next t ∧ t.txBitpos = none ∧ t.txb = s.txb ∧
        t.txOutcome = s.txOutcome ∧ t.drive = !s.cfgInvSh)

/-- R146 to R149: what a TICK of the receive branch (nothing to send, or the bus not available) does with its
logical sample: a start edge, no edge, a data bit, a stop bit (kept, or dropped and counted when RXB is full).
-/
def Obligations.TickReceivesTheNextBit : Prop :=
  ∀ (s : State) (l : Level),
    s.txBitpos = none → (s.txb = [] ∨ avail s ≠ .netAvailable) →
    let heard : State := { s with
      cfgInv := s.cfgInvSh, speedSel := s.cfgSpeedSh, drive := !s.cfgInvSh, prevL := l
      lineState := if s.lineState = .collisionDetected then .idle else s.lineState
      idleCount := 0#16, carrierSeen := true }
    (s.rxBitpos = none → s.prevL = true → l = false →
      exec (.tick (xor l s.cfgInvSh)) s =
        .next { heard with rxBitpos := some (.data 0), rxShift := 0x00#8 }) ∧
    (s.rxBitpos = none → s.prevL = false → l = false →
      exec (.tick (xor l s.cfgInvSh)) s = .next heard) ∧
    (s.rxBitpos = none → l = true →
      exec (.tick (xor l s.cfgInvSh)) s = .next { heard with
        carrierSeen := s.carrierSeen
        idleCount := BitVec.ofNat 16 (min (s.idleCount.toNat + 1) 65535) }) ∧
    (∀ k : Fin 8, s.rxBitpos = some (.data k) →
      ∃ shift q, rxBitNumber q = k.val + 2 ∧
        (∀ j, j < 8 → shift.getLsbD j = if j = k.val then l else s.rxShift.getLsbD j) ∧
        exec (.tick (xor l s.cfgInvSh)) s =
          .next { heard with rxShift := shift, rxBitpos := some q }) ∧
    (s.rxBitpos = some .stop → s.rxb.length < s.params.rxbCap →
      exec (.tick (xor l s.cfgInvSh)) s = .next { heard with
        rxBitpos := none, rxb := s.rxb ++ [{ err := !l, byte := s.rxShift }] }) ∧
    (s.rxBitpos = some .stop → s.params.rxbCap ≤ s.rxb.length →
      exec (.tick (xor l s.cfgInvSh)) s = .next { heard with
        rxBitpos := none, cnt := { s.cnt with rxOverrun := s.cnt.rxOverrun + 1#16 } })

/-- R150: which ticks are active, and what activity does to the idle counter. -/
def Obligations.IdleCounterCountsInactiveTicks : Prop :=
  ∀ (x : Level) (s : State), ∃ t, exec (.tick x) s = .next t ∧
    (s.txBitpos ≠ none ∨ (s.txb ≠ [] ∧ avail s = .netAvailable) ∨ s.rxBitpos ≠ none ∨ x = s.cfgInvSh →
      t.idleCount = 0#16 ∧ t.carrierSeen = true) ∧
    (s.txBitpos = none → (s.txb = [] ∨ avail s ≠ .netAvailable) → s.rxBitpos = none → x = !s.cfgInvSh →
      t.idleCount = BitVec.ofNat 16 (min (s.idleCount.toNat + 1) 65535) ∧ t.carrierSeen = s.carrierSeen)

/-- R151: the tick after a collision finds the line idle again and takes the receive branch. -/
def Obligations.CollisionLastsOneTick : Prop :=
  ∀ (x : Level) (s : State),
    s.lineState = .collisionDetected → s.txBitpos = none → s.txb = [] →
      ∃ t, exec (.tick x) s = .next t ∧ t.lineState = .idle ∧ t.txBitpos = none ∧
        t.drive = !s.cfgInvSh ∧ t.txOutcome = s.txOutcome ∧ t.lastEvent = s.lastEvent

/-- R100, R146 to R148: the ten ticks of a character that another node sends, after a mark, put its byte
into RXB with err = 0, or count one overrun when RXB is full; with a space for the stop bit, err = 1. -/
def Obligations.TenTicksReceiveACharacter : Prop :=
  ∀ (s : State) (b : Byte) (stop : Level),
    s.txBitpos = none → s.txb = [] → s.rxBitpos = none → s.prevL = true →
      ∃ t, afterTicks (onLine s.cfgInvSh ((characterBits b).dropLast ++ [stop])) s = .next t ∧
        t.rxBitpos = none ∧ t.txBitpos = none ∧ t.txb = [] ∧ t.prevL = stop ∧ t.cfgInvSh = s.cfgInvSh ∧
        t.params = s.params ∧ t.idleCount = 0#16 ∧ t.carrierSeen = true ∧
        (s.rxb.length < s.params.rxbCap →
          t.rxb = s.rxb ++ [{ err := !stop, byte := b }] ∧ t.cnt = s.cnt) ∧
        (s.params.rxbCap ≤ s.rxb.length →
          t.rxb = s.rxb ∧ t.cnt = { s.cnt with rxOverrun := s.cnt.rxOverrun + 1#16 })

/-- The characters of a frame, sent back to back by another node, stand in RXB in order, each with err = 0,
if RXB has room for them (R101, R146 to R148, R96). -/
def Obligations.FrameOnTheLineFillsTheRing : Prop :=
  ∀ (s : State) (f : Frame),
    s.txBitpos = none → s.txb = [] → s.rxBitpos = none → s.prevL = true →
    s.rxb.length + f.length ≤ s.params.rxbCap →
      ∃ t, afterTicks (onLine s.cfgInvSh (bitsOf f)) s = .next t ∧
        t.rxb = s.rxb ++ goodEntries f ∧ t.rxBitpos = none ∧ t.prevL = true ∧ t.cnt = s.cnt

/-- R153, the spec's own inference from R143 and R145, its first half: with no collision a frame of N bytes
fills 10N ticks from its first start bit. At every tick offset k the level driven is the k-th bit of its
characters, no outcome is reported before the last tick, and the last one reports DONE. -/
def Obligations.FrameTimeline : Prop :=
  ∀ (s : State) (f : Frame),
    s.txBitpos = none → s.txb = f → f ≠ [] → avail s = .netAvailable →
      (∀ k, k < 10 * f.length →
        ∃ t bit, (bitsOf f)[k]? = some bit ∧
          afterTicks (onLine s.cfgInvSh ((bitsOf f).take (k + 1))) s = .next t ∧
          t.drive = xor bit s.cfgInvSh ∧
          (k + 1 < 10 * f.length →
            t.lineState = .transmitting ∧ t.txBitpos ≠ none ∧ t.txOutcome = s.txOutcome) ∧
          (k + 1 = 10 * f.length →
            t.lineState = .idle ∧ t.txBitpos = none ∧ t.txb = [] ∧ t.txOutcome = .done ∧
            t.lastEvent = .msg ∧ t.idleCount = 0#16))

/-- R153, its second half, and R144: a mismatch at tick offset k of a frame, whichever bit of whichever
character that is, is detected in that tick, abandons the rest of the frame and reports COLLIDED. -/
def Obligations.CollisionTimeline : Prop :=
  ∀ (s : State) (f : Frame) (k : Nat) (bit : Level),
    s.txBitpos = none → s.txb = f → avail s = .netAvailable → (bitsOf f)[k]? = some bit →
      ∃ t, afterTicks (onLine s.cfgInvSh ((bitsOf f).take k ++ [!bit])) s = .next t ∧
        t.lineState = .collisionDetected ∧ t.txBitpos = none ∧ t.txb = [] ∧ t.txOutcome = .collided ∧
        t.lastEvent = .collision ∧ t.drive = xor bit s.cfgInvSh ∧
        t.cnt = { s.cnt with collision := s.cnt.collision + 1#16 } ∧
        t.inflight = s.inflight ∧ t.rxb = s.rxb

/-- R155, the spec's own inference from R146 and R150: a line held at space for any number of ticks, with no
character under way and no mark before it, keeps the idle counter at 0 and the bus Busy, and produces no
character. -/
def Obligations.HeldSpaceProducesNothing : Prop :=
  ∀ (s : State) (n : Nat),
    1 ≤ s.params.gapMin → s.txBitpos = none → s.txb = [] → s.rxBitpos = none → s.prevL = false →
      ∃ t, afterTicks (List.replicate (n + 1) s.cfgInvSh) s = .next t ∧
        t.idleCount = 0#16 ∧ avail t = .busy ∧ t.rxb = s.rxb ∧ t.rxBitpos = none ∧ t.cnt = s.cnt

/-- R18, R141, R149: polarity is a relabelling of the line. A TICK of the engine with the opposite polarity
on the opposite sample does the same, but that the polarity flags and the driven level are inverted. -/
def Obligations.PolarityIsARelabelling : Prop :=
  ∀ (x : Level) (s : State),
    exec (.tick (!x)) (mirror s) = mapNext mirror (exec (.tick x) s) ∧ ∃ t, exec (.tick x) s = .next t

/-! ### Arbitration -/

/-- R219, the spec's own inference from R210 and R150: after activity, on a line that stays at mark with nothing
to send, the bus is Busy for GAP_MIN ticks, in backoff for W more, and available from then on. -/
def Obligations.InterFrameSpacing : Prop :=
  ∀ (s : State) (n : Nat),
    s.params.Ok → s.backoffR.toNat ≤ s.params.backoffRandMax →
    s.lineState ≠ .transmitting → s.txBitpos = none → s.txb = [] → s.rxBitpos = none →
    s.idleCount = 0#16 →
      ∃ t, afterTicks (List.replicate n (!s.cfgInvSh)) s = .next t ∧
        (n < s.params.gapMin → avail t = .busy) ∧
        (s.params.gapMin ≤ n → n < s.params.gapMin + backoffWindow s → avail t = .awaitBackoff) ∧
        (s.params.gapMin + backoffWindow s ≤ n → avail t = .netAvailable)

/-- R211 to R213, R281: the window is TIER_COLL plus the drawn part after a collision. After a message the
candidate's priority picks TIER_PRIO or TIER_NORMAL: the slot in flight, else the head of TXQ, else none. So a
PRIO SUBMIT shortens the window at once when nothing is queued or in flight, and no other SUBMIT changes it. -/
def Obligations.PrioritySubmitShortensTheWindow : Prop :=
  ∀ s : State,
    (s.lastEvent = .collision → backoffWindow s = s.params.tierColl + s.backoffR.toNat) ∧
    (s.lastEvent = .msg →
      (∀ slot, s.inflight = some slot →
        backoffWindow s = (if slot.prio then s.params.tierPrio else s.params.tierNormal) + s.backoffR.toNat) ∧
      (∀ head rest, s.inflight = none → s.txq = head :: rest →
        backoffWindow s = (if head.prio then s.params.tierPrio else s.params.tierNormal) + s.backoffR.toNat) ∧
      (s.inflight = none → s.txq = [] → backoffWindow s = s.params.tierNormal + s.backoffR.toNat)) ∧
    ∀ (b : Frame) (prio : Bool), s.params.Ok → wellFormedBody s.params.maxFrame b = true →
      ∃ t, exec (.submit (if prio then 0x01#8 else 0x00#8) b) s = .next t ∧
        (s.lastEvent = .collision ∨ s.inflight ≠ none ∨ s.txq ≠ [] ∨ prio = false →
          backoffWindow t = backoffWindow s) ∧
        (s.lastEvent = .msg → s.inflight = none → s.txq = [] → prio = true →
          backoffWindow t = s.params.tierPrio + s.backoffR.toNat ∧ backoffWindow t < backoffWindow s)

/-- R214 and R216, the spec's own inference: the collision tier ends only at the end of a frame this node sent,
at a POLL one of whose entries completes a valid frame, or at RESET. The last case but one is that entry's
wire row, which POLL runs. -/
def Obligations.CollisionTierPersists : Prop :=
  ∀ (i : Instr) (s : State), ∃ t, exec i s = .next t ∧
    (s.lastEvent = .collision → t.lastEvent = .msg →
      (∃ x, i = .tick x ∧ s.txBitpos = some .stop ∧ t.txOutcome = .done ∧ t.txBitpos = none) ∨
      (i = .poll ∧ ∃ before e later, s.rxb = before ++ e :: later ∧
        CompletesValidFrame e (assembleAll before s)) ∨
      (∃ v, i = .data v ∧ CompletesValidFrame { err := false, byte := BitVec.ofNat 8 v.toNat } s) ∨
      i = .reset)

/-- R217: the carrier-loss check of every POLL. -/
def Obligations.CarrierLossCheck : Prop :=
  ∀ s : State, ∃ t, exec .poll s = .next t ∧ t.carrierSeen = false ∧
    (s.carrierSeen = true ∨ s.clDeadline = none →
      t.clDeadline = some (s.now + s.params.carrierLossUs) ∧ t.clNotify = s.clNotify ∧
      t.cnt.carrierLoss = s.cnt.carrierLoss) ∧
    (∀ d, s.carrierSeen = false → s.clDeadline = some d → d ≤ s.now →
      t.clDeadline = some (s.now + s.params.carrierLossUs) ∧ t.clNotify = true ∧
      t.cnt.carrierLoss = s.cnt.carrierLoss + 1#16) ∧
    (∀ d, s.carrierSeen = false → s.clDeadline = some d → s.now < d →
      t.clDeadline = some d ∧ t.clNotify = s.clNotify ∧ t.cnt.carrierLoss = s.cnt.carrierLoss)

/-! ### POLL -/

/-- R272, R273, R278: what every POLL leaves: no entry in RXB; in the assembler's elements, in DISPATCH, in the
receive counters and in the backoff event, what assemble applied to the entries of RXB in order leaves there;
no outcome unhandled; and everything that belongs to TICK or to the host untouched. -/
def Obligations.PollDrainsAndKeepsTheRest : Prop :=
  ∀ s : State, ∃ t, exec .poll s = .next t ∧ t.rxb = [] ∧ t.txOutcome = .none ∧
    (let u := assembleAll s.rxb s
     t.asmState = u.asmState ∧ t.asmBuf = u.asmBuf ∧ t.asmExpect = u.asmExpect ∧ t.dispatch = u.dispatch ∧
      t.lastEvent = u.lastEvent ∧ t.backoffR = u.backoffR ∧ t.draws = u.draws ∧
      t.cnt.cksumErr = u.cnt.cksumErr ∧ t.cnt.framingErr = u.cnt.framingErr ∧
      t.cnt.rxFrames = u.cnt.rxFrames) ∧
    t.cnt = { t.cnt with collision := s.cnt.collision, rxOverrun := s.cnt.rxOverrun } ∧
    t = { s with
      lastEvent := t.lastEvent, backoffR := t.backoffR, draws := t.draws, txOutcome := .none
      carrierSeen := t.carrierSeen, clDeadline := t.clDeadline, clNotify := t.clNotify
      txq := t.txq, inflight := t.inflight, txb := t.txb, rxb := []
      asmState := t.asmState, asmBuf := t.asmBuf, asmExpect := t.asmExpect
      pending := t.pending, resultCode := t.resultCode, resultSeq := t.resultSeq
      cnt := t.cnt, dispatch := t.dispatch }

/-- R234, R250, R251, R276: the POLL that handles DONE. Whatever else it has to do, the send is counted and the
slot is finished with: none is in flight, or the next queued slot is. With no character to handle, SENT is
reported and a reply-bearing frame arms the correlator with this POLL's clock value, replacing and counting an
older expectation; without a reply to expect, the older one stays, or times out if it is due. A reply that is
already in RXB settles the expectation in the same POLL. -/
def Obligations.SentFrameArmsTheCorrelator : Prop :=
  ∀ (s : State) (slot : Slot),
    s.params.Ok → s.txOutcome = .done → s.inflight = some slot →
      ∃ t, exec .poll s = .next t ∧ t.txOutcome = .none ∧ t.cnt.txFrames = s.cnt.txFrames + 1#16 ∧
        ((t.inflight = none ∧ t.txq = s.txq ∧ t.txb = s.txb) ∨
          (∃ next rest, s.txq = next :: rest ∧ t.inflight = some next ∧ t.txq = rest ∧
            t.txb = s.txb ++ next.frame)) ∧
        (∀ ro cid, s.rxb = [] → replySpec s.params.replySpec slot.frame = some (ro, cid) →
          t.resultCode = .sent ∧ t.resultSeq = s.resultSeq + 1#8 ∧
          t.pending = some
            { replyOpc := ro, corrId := cid, sentUs := s.now
              deadlineUs := s.now + s.params.respTimeoutUs } ∧
          t.cnt.replyTimeout =
            if s.pending = none then s.cnt.replyTimeout else s.cnt.replyTimeout + 1#16) ∧
        (s.rxb = [] → replySpec s.params.replySpec slot.frame = none →
          (∀ p, s.pending = some p → s.now < p.deadlineUs) →
          t.resultCode = .sent ∧ t.resultSeq = s.resultSeq + 1#8 ∧ t.pending = s.pending ∧
          t.cnt.replyTimeout = s.cnt.replyTimeout) ∧
        (∀ p, s.rxb = [] → replySpec s.params.replySpec slot.frame = none →
          s.pending = some p → p.deadlineUs ≤ s.now →
          t.resultCode = .replyTimeout ∧ t.resultSeq = s.resultSeq + 2#8 ∧ t.pending = none ∧
          t.cnt.replyTimeout = s.cnt.replyTimeout + 1#16) ∧
        (∀ ro cid f, replySpec s.params.replySpec slot.frame = some (ro, cid) →
          s.asmState = .waitOpc → s.rxb = goodEntries f → shapeOK s.params.maxFrame f = true →
          valid f = true → f.head? = some ro → matchKey s.params.matchKey f = cid →
          t.resultCode = .replyReceived ∧ t.resultSeq = s.resultSeq + 2#8 ∧ t.pending = none)

/-- R235, R236, R239, R276: the POLL that handles a collision, whatever else it has to do. Below the ceiling the
slot goes to the tail of TXQ with one more attempt, above it the slot is gone and counted. The queue this leaves
stays, or gives up its head to inflight and TXB in the same POLL; within the gap it stays. -/
def Obligations.CollidedSlotIsRequeuedOrDropped : Prop :=
  ∀ (s : State) (slot : Slot),
    s.txOutcome = .collided → s.inflight = some slot → slot.attempts.toNat < 255 →
      ∃ t queued, exec .poll s = .next t ∧ t.txOutcome = .none ∧
        ((t.inflight = none ∧ t.txq = queued ∧ t.txb = s.txb) ∨
          (∃ head rest, queued = head :: rest ∧ t.inflight = some head ∧ t.txq = rest ∧
            t.txb = s.txb ++ head.frame)) ∧
        (s.idleCount.toNat < s.params.gapMin → t.inflight = none) ∧
        (slot.attempts.toNat + 1 ≤ s.params.maxRetry →
          (∃ again, queued = s.txq ++ [again] ∧ again.frame = slot.frame ∧ again.prio = slot.prio ∧
            again.enqUs = slot.enqUs ∧ again.attempts.toNat = slot.attempts.toNat + 1 ∧
            again.lastFail = .collision) ∧
          t.cnt.dropped = s.cnt.dropped ∧
          (s.rxb = [] → s.pending = none →
            t.resultCode = .collidedRetrying ∧ t.resultSeq = s.resultSeq + 1#8)) ∧
        (s.params.maxRetry < slot.attempts.toNat + 1 →
          queued = s.txq ∧ t.cnt.dropped = s.cnt.dropped + 1#16 ∧
          (s.rxb = [] → s.pending = none →
            t.resultCode = .collidedDropped ∧ t.resultSeq = s.resultSeq + 1#8))

/-- R252, R253, R274: the expectation that stands after step 2 of a POLL, `w`, with any entries in RXB. One that
an entry's frame answers is settled, due or not; any other times out exactly when it is due, and otherwise
stays. With none, the result of step 2 stands. Always TX_FRAMES and DROPPED are those of step 2 (R64, R234 to
R236): a POLL counts the first only at DONE and the second only at a drop. -/
def Obligations.ReplyTimeoutAtTheDeadline : Prop :=
  ∀ s w : State, OutcomeHandled s w →
    ∃ t, exec .poll s = .next t ∧
      t.cnt.txFrames = w.cnt.txFrames ∧ t.cnt.dropped = w.cnt.dropped ∧
      (w.pending = none →
        t.pending = none ∧ t.resultCode = w.resultCode ∧ t.resultSeq = w.resultSeq ∧
        t.cnt.replyTimeout = w.cnt.replyTimeout) ∧
      ∀ p, w.pending = some p →
        (Answered s.rxb p w →
          t.pending = none ∧ t.resultCode = .replyReceived ∧ t.resultSeq = w.resultSeq + 1#8 ∧
          t.cnt.replyTimeout = w.cnt.replyTimeout) ∧
        (¬ Answered s.rxb p w → p.deadlineUs ≤ s.now →
          t.pending = none ∧ t.resultCode = .replyTimeout ∧ t.resultSeq = w.resultSeq + 1#8 ∧
          t.cnt.replyTimeout = w.cnt.replyTimeout + 1#16) ∧
        (¬ Answered s.rxb p w → s.now < p.deadlineUs →
          t.pending = some p ∧ t.resultCode = w.resultCode ∧ t.resultSeq = w.resultSeq ∧
          t.cnt.replyTimeout = w.cnt.replyTimeout)

/-- R252, R274: a reply that is in RXB when the POLL starts is matched before its deadline is tested, even
when the deadline has passed. -/
def Obligations.ReplyInRingBeatsItsDeadline : Prop :=
  ∀ (s : State) (p : PendingResponse) (f : Frame),
    s.params.maxFrame ≤ 127 → s.txOutcome = .none → s.asmState = .waitOpc →
    s.rxb = goodEntries f → shapeOK s.params.maxFrame f = true → valid f = true →
    s.pending = some p → f.head? = some p.replyOpc → matchKey s.params.matchKey f = p.corrId →
      ∃ t, exec .poll s = .next t ∧ t.pending = none ∧ t.resultCode = .replyReceived ∧
        t.resultSeq = s.resultSeq + 1#8 ∧ t.cnt.replyTimeout = s.cnt.replyTimeout

/-- R233, R54, R275: step 5 of every POLL, whatever outcome and entries it had to handle. Avail() is evaluated in
`u`: the queue and slot are those that step 2 left (`w`), the tier and the drawn part those that assembling the
entries of RXB left. The oldest slot goes into TXB when that is NetAvailable and no slot is in flight, and
nothing moves otherwise. -/
def Obligations.PollDrainsTheOldestSlot : Prop :=
  ∀ s w : State, OutcomeHandled s w →
    let u := assembleAll s.rxb w
    ∃ t, exec .poll s = .next t ∧
      (∀ slot rest, w.inflight = none → w.txq = slot :: rest → avail u = .netAvailable →
        t.inflight = some slot ∧ t.txq = rest ∧ t.txb = s.txb ++ slot.frame) ∧
      (w.inflight ≠ none ∨ w.txq = [] ∨ avail u ≠ .netAvailable →
        t.inflight = w.inflight ∧ t.txq = w.txq ∧ t.txb = s.txb)

/-! ### Host commands -/

/-- R231, R281: SUBMIT. The validity check comes before the capacity check, the in-flight slot counts
against the capacity, and only an accepted body changes TXQ. -/
def Obligations.SubmitQueuesOrRejects : Prop :=
  ∀ (s : State) (flags : Byte) (body : Frame),
    flags.toNat < 2 → 1 ≤ body.length → body.length ≤ s.params.maxFrame - 1 → body.length ≤ 255 →
    let used := s.txq.length + (if s.inflight = none then 0 else 1)
    (wellFormedBody s.params.maxFrame body = false →
      exec (.submit flags body) s = .next { s with response := [0x03#8] }) ∧
    (wellFormedBody s.params.maxFrame body = true → s.params.txqCap ≤ used →
      exec (.submit flags body) s = .next { s with response := [0x02#8] }) ∧
    (wellFormedBody s.params.maxFrame body = true → used < s.params.txqCap →
      exec (.submit flags body) s = .next { s with
        response := [0x01#8]
        txq := s.txq ++
          [{ frame := body ++ [~~~ xorAcc body], prio := flags == 0x01#8, enqUs := s.now
             attempts := 0x00#8, lastFail := .none }] })

/-- R238, the spec's own inference from R231 and R232: k SUBMITs of well-formed bodies onto an empty queue with
nothing in flight: the first TXQ_CAP are QUEUED, the rest REJECTED_FULL, and the queue holds their frames in
submission order. -/
def Obligations.QueueIsBoundedFifo : Prop :=
  ∀ (s : State) (bodies : List Frame),
    s.params.Ok → s.txq = [] → s.inflight = none →
    (∀ b ∈ bodies, wellFormedBody s.params.maxFrame b = true) →
      (afterSubmits bodies s).1 =
        List.replicate (min bodies.length s.params.txqCap) 0x01#8 ++
          List.replicate (bodies.length - s.params.txqCap) 0x02#8 ∧
      (afterSubmits bodies s).2.txq.map Slot.frame = (bodies.take s.params.txqCap).map encodeFrame

/-- R282, R237: FLUSH empties TXQ and nothing else. -/
def Obligations.FlushEmptiesTheQueueOnly : Prop :=
  ∀ s : State, exec .flush s = .next { s with txq := [], response := [0x00#8] }

/-- R283, R37: CONFIG writes the two shadows; cfg_inv and speed_sel keep their values until the next TICK,
which latches them. A reserved bit set is ILLEGAL. -/
def Obligations.ConfigTakesEffectAtTheNextTick : Prop :=
  ∀ (s : State) (inv speed : Bool) (reserved : Byte),
    let cfg : Byte := BitVec.ofNat 8 (inv.toNat + 2 * speed.toNat)
    exec (.config cfg) s =
      .next { s with cfgInvSh := inv, cfgSpeedSh := speed, response := [0x00#8] } ∧
    (∀ x, ∃ t, afterOps [.config cfg, .tick x] s = .next t ∧ t.cfgInv = inv ∧ t.speedSel = speed) ∧
    (4 ≤ reserved.toNat → exec (.config reserved) s = .next { s with response := [0x0F#8] })

/-- R284, R62, R86: READ_RESULT answers the code's number and the sequence number and changes nothing. -/
def Obligations.ReadResultReportsTheLatest : Prop :=
  ∀ s : State, ∃ code : Byte,
    exec .readResult s = .next { s with response := [0x00#8, code, s.resultSeq] } ∧
    code.toNat = (match s.resultCode with
      | .none => 0
      | .sent => 1
      | .collidedRetrying => 2
      | .collidedDropped => 3
      | .replyReceived => 4
      | .replyTimeout => 5)

/-- R285, R65: the three status bytes, field by field, and the one effect of reading them. -/
def Obligations.ReadStatusFieldByField : Prop :=
  ∀ s : State, s.txq.length ≤ 255 → ∃ s0 s1 s2 : Byte,
    exec .readStatus s = .next { s with clNotify := false, response := [0x00#8, s0, s1, s2] } ∧
    (s0.extractLsb' 0 2).toNat =
      (match s.lineState with
        | .idle => 0
        | .transmitting => 1
        | .collisionDetected => 2) ∧
    (s0.extractLsb' 2 2).toNat =
      (if s.lineState ≠ .idle ∨ s.txBitpos ≠ none ∨ s.rxBitpos ≠ none ∨
          s.idleCount.toNat < s.params.gapMin then 0
        else if s.idleCount.toNat < s.params.gapMin + backoffWindow s then 1
        else 2) ∧
    s0.getLsbD 4 = s.clNotify ∧ s0.getLsbD 5 = s.pending.isSome ∧ s0.getLsbD 6 = s.inflight.isSome ∧
    s0.getLsbD 7 = s.sinkEn ∧ s1.toNat = s.txq.length ∧
    s2.getLsbD 0 = s.cfgInv ∧ s2.getLsbD 1 = s.speedSel ∧ s2.getLsbD 2 = s.cfgInvSh ∧
    s2.getLsbD 3 = s.cfgSpeedSh ∧ (s2.extractLsb' 4 4).toNat = 0

/-- R286: SET_SINK registers or removes the consumer and touches nothing else, DISPATCH included; any other
operand is ILLEGAL. -/
def Obligations.SetSinkRegistersTheConsumer : Prop :=
  ∀ s : State,
    exec (.setSink 0x00#8) s = .next { s with sinkEn := false, response := [0x00#8] } ∧
    exec (.setSink 0x01#8) s = .next { s with sinkEn := true, response := [0x00#8] } ∧
    ∀ en : Byte, 2 ≤ en.toNat → exec (.setSink en) s = .next { s with response := [0x0F#8] }

/-- R287, R83, R64: READ_COUNTER answers the counter of its index, low byte first, and changes nothing; an
index above 8 is ILLEGAL. -/
def Obligations.ReadCounterLowByteFirst : Prop :=
  ∀ (s : State),
    (∀ beyond : Byte, 9 ≤ beyond.toNat →
      exec (.readCounter beyond) s = .next { s with response := [0x0F#8] }) ∧
    ∀ idx : Fin 9, ∃ lo hi : Byte,
    exec (.readCounter (BitVec.ofNat 8 idx.val)) s = .next { s with response := [0x00#8, lo, hi] } ∧
    [s.cnt.cksumErr.toNat, s.cnt.framingErr.toNat, s.cnt.collision.toNat, s.cnt.dropped.toNat,
      s.cnt.replyTimeout.toNat, s.cnt.carrierLoss.toNat, s.cnt.rxOverrun.toNat, s.cnt.rxFrames.toNat,
      s.cnt.txFrames.toNat][idx.val]? = some (lo.toNat + 256 * hi.toNat)

/-- R288, R340, R70: RESET puts every element for which R70 gives a value at that value, whatever came
before, and leaves DISPATCH, the parameters and the environment's inputs alone. The values of tx_byte and
rx_shift are not claimed (R342), nor the count of free values supplied (log 1). -/
def Obligations.ResetRestoresTheResetState : Prop :=
  ∀ s : State, ∃ t, exec .reset s = .next t ∧
    t = { t with
      params := s.params, cfgInvSh := false, cfgSpeedSh := false, cfgInv := false, speedSel := false
      sinkEn := false, lineState := .idle, txBitpos := none, rxBitpos := none, prevL := false, drive := true
      idleCount := 0#16, lastEvent := .msg, backoffR := 0#16, txOutcome := .none, carrierSeen := false
      clDeadline := none, clNotify := false, txq := [], inflight := none, txb := [], rxb := []
      asmState := .waitOpc, asmBuf := [], asmExpect := 0#8, pending := none, resultCode := .none
      resultSeq := 0#8, cnt := ⟨0, 0, 0, 0, 0, 0, 0, 0, 0⟩
      dispatch := s.dispatch, input := s.input, now := s.now, response := [0x00#8] }

/-- R341, the spec's own inference from R340, R284, R285 and R287: what the host observes right after reset, for
every parameter set that meets R13. -/
def Obligations.ObservedAfterReset : Prop :=
  ∀ p : Params, p.Ok →
    let s := State.resetOf p
    exec .readStatus s = .next { s with response := [0x00#8, 0x00#8, 0x00#8, 0x00#8] } ∧
    exec .readResult s = .next { s with response := [0x00#8, 0x00#8, 0x00#8] } ∧
    (∀ idx : Fin 9, exec (.readCounter (BitVec.ofNat 8 idx.val)) s =
      .next { s with response := [0x00#8, 0x00#8, 0x00#8] }) ∧
    busyOut s = false ∧ s.drive = true

/-! ### Whole-machine rules -/

/-- R323, the spec's own inference from R32 to R64: who writes what. A wire row is a part of POLL (R200), and
touches only what POLL may. -/
def Obligations.WritersOfTheTimerContextAndTheHost : Prop :=
  ∀ (i : Instr) (s : State), ∃ t, exec i s = .next t ∧
    ((∀ x, i ≠ .tick x) → i ≠ .reset →
      t.cfgInv = s.cfgInv ∧ t.speedSel = s.speedSel ∧ t.lineState = s.lineState ∧
      t.txBitpos = s.txBitpos ∧ t.txByte = s.txByte ∧ t.rxBitpos = s.rxBitpos ∧ t.rxShift = s.rxShift ∧
      t.prevL = s.prevL ∧ t.drive = s.drive ∧ t.idleCount = s.idleCount ∧
      t.cnt.collision = s.cnt.collision ∧ t.cnt.rxOverrun = s.cnt.rxOverrun) ∧
    (portOf i ≠ none → i ≠ .poll → i ≠ .reset →
      t.inflight = s.inflight ∧ t.asmState = s.asmState ∧ t.asmBuf = s.asmBuf ∧
      t.asmExpect = s.asmExpect ∧ t.pending = s.pending ∧ t.resultCode = s.resultCode ∧
      t.resultSeq = s.resultSeq ∧ t.clDeadline = s.clDeadline ∧ t.dispatch = s.dispatch ∧
      t.cnt = { s.cnt with collision := t.cnt.collision, rxOverrun := t.cnt.rxOverrun }) ∧
    (portOf i = none →
      t = { s with
        asmState := t.asmState, asmBuf := t.asmBuf, asmExpect := t.asmExpect, lastEvent := t.lastEvent
        backoffR := t.backoffR, draws := t.draws, pending := t.pending, resultCode := t.resultCode
        resultSeq := t.resultSeq, cnt := t.cnt, dispatch := t.dispatch }) ∧
    (portOf i = some .host → i ≠ .reset →
      t.txOutcome = s.txOutcome ∧ t.carrierSeen = s.carrierSeen ∧ t.lastEvent = s.lastEvent ∧
      t.backoffR = s.backoffR ∧ t.txb = s.txb ∧ t.rxb = s.rxb) ∧
    (∀ x, i = .tick x →
      (t.txOutcome = s.txOutcome ∨ t.txOutcome ≠ .none) ∧ (s.carrierSeen = true → t.carrierSeen = true) ∧
      (∃ gone, s.txb = gone ++ t.txb) ∧ ∃ more, t.rxb = s.rxb ++ more) ∧
    (i = .poll →
      t.txOutcome = .none ∧ t.carrierSeen = false ∧ t.rxb = [] ∧ (∃ more, t.txb = s.txb ++ more) ∧
      (s.clNotify = true → t.clNotify = true) ∧
      ∃ popped pushed kept, s.txq ++ pushed = popped ++ kept ∧ t.txq = kept ∧
        popped.length ≤ 1 ∧ pushed.length ≤ 1) ∧
    ((∀ c, i ≠ .config c) → i ≠ .reset → t.cfgInvSh = s.cfgInvSh ∧ t.cfgSpeedSh = s.cfgSpeedSh) ∧
    ((∀ e, i ≠ .setSink e) → i ≠ .reset → t.sinkEn = s.sinkEn) ∧
    ((∀ fl b, i ≠ .submit fl b) → i ≠ .flush → i ≠ .poll → i ≠ .reset → t.txq = s.txq) ∧
    (i ≠ .readStatus → i ≠ .poll → i ≠ .reset → t.clNotify = s.clNotify)

/-- R321: busy_out is 1 exactly while the line is not Idle or a character is under way in either direction. It is
0 after reset, only TICK and RESET can change it, and Avail() is Busy while it is 1. -/
def Obligations.BusyOutIsTheLineOrACharacter : Prop :=
  ∀ s : State,
    (busyOut s = true ↔ s.lineState ≠ .idle ∨ s.txBitpos ≠ none ∨ s.rxBitpos ≠ none) ∧
    (busyOut s = true → avail s = .busy) ∧
    (∃ t, exec .reset s = .next t ∧ busyOut t = false) ∧
    ∀ i : Instr, (∀ x, i ≠ .tick x) → i ≠ .reset → ∃ t, exec i s = .next t ∧ busyOut t = busyOut s

/-- R290, the spec's own inference from R281 to R288: no host command but RESET reads or writes TXB, RXB, the
assembler's state or tx_outcome: with any other values there, it does the same to everything else and leaves
those values. -/
def Obligations.HostCommandsIgnoreTheContexts : Prop :=
  ∀ (i : Instr) (s : State) (txb : List Byte) (rxb : List RxEntry) (st : AsmState) (buf : Frame)
    (expect : Byte) (o : TxOutcome),
    isHostCommand i → i ≠ .reset →
      let other : State → State := fun u =>
        { u with txb := txb, rxb := rxb, asmState := st, asmBuf := buf, asmExpect := expect, txOutcome := o }
      exec i (other s) = mapNext other (exec i s)

/-- R40, R42, R342: the two elements whose reset value is unspecified are never observed. Two states that
differ only there, and only while no character is under way in that direction, take equal steps. -/
def Obligations.UnspecifiedValuesAreNeverObserved : Prop :=
  ∀ s t : State, SameButUnspecified s t →
    (∃ s' t', step s = .next s' ∧ step t = .next t' ∧ SameButUnspecified s' t') ∨
    (∃ r, step s = .refused r ∧ step t = .refused r)

/-! ### Invariants -/

/-- The engine's invariant is kept by every step, from every state that has it, whatever records wait. -/
def Obligations.EveryStepKeepsTheInvariant : Prop :=
  ∀ s t : State, Good s → step s = .next t → Good t

/-- The invariant holds right after reset, for every parameter set that meets R13. -/
def Obligations.InvariantHoldsAtReset : Prop :=
  ∀ p : Params, p.Ok → Good (State.resetOf p)

/-- R69, the spec's own inference: its six invariants hold in every state that a run can reach from reset,
whatever records the agents issue. -/
def Obligations.InvariantsOfReachableStates : Prop :=
  ∀ (p : Params) (s : State), p.Ok → Reachable p s → EngineInvariant s

/-- R196, R198, R257: DISPATCH only grows, and every frame a step appends to it is well shaped and has the
right check byte. -/
def Obligations.DispatchedFramesAreWellFormed : Prop :=
  ∀ s t : State, Good s → step s = .next t →
    ∃ fs, t.dispatch = s.dispatch ++ fs ∧
      ∀ f ∈ fs, shapeOK s.params.maxFrame f = true ∧ valid f = true
end

