-- ==== Sys2Proof/Laws/State.lean ====
section
/-! SUPPORT. What each unconditional update of the state does to each field, one lemma a field, so that no
proof unfolds a record update. -/

namespace Sys2Proof.Machine

@[simp] theorem Counters.get_set_same (n : Counters) (c : Counter) (v : Half) : (n.set c v).get c = v := by
  cases c <;> rfl

@[simp] theorem Counters.get_set_other (n : Counters) (c d : Counter) (v : Half) (h : d ≠ c) :
    (n.set c v).get d = n.get d := by
  cases c <;> cases d <;> first | rfl | exact absurd rfl h

theorem Counters.ext_get (n m : Counters) (h : ∀ c, n.get c = m.get c) : n = m := by
  obtain ⟨_, _, _, _, _, _, _, _, _⟩ := n
  obtain ⟨_, _, _, _, _, _, _, _, _⟩ := m
  have h0 := h .cksumErr
  have h1 := h .framingErr
  have h2 := h .collision
  have h3 := h .dropped
  have h4 := h .replyTimeout
  have h5 := h .carrierLoss
  have h6 := h .rxOverrun
  have h7 := h .rxFrames
  have h8 := h .txFrames
  simp only [Counters.get] at h0 h1 h2 h3 h4 h5 h6 h7 h8
  simp [h0, h1, h2, h3, h4, h5, h6, h7, h8]

/-! ### bump -/

@[simp] theorem bump_params (c : Counter) (s : State) : (bump c s).params = s.params := rfl
@[simp] theorem bump_cfgInvSh (c : Counter) (s : State) : (bump c s).cfgInvSh = s.cfgInvSh := rfl
@[simp] theorem bump_cfgSpeedSh (c : Counter) (s : State) : (bump c s).cfgSpeedSh = s.cfgSpeedSh := rfl
@[simp] theorem bump_cfgInv (c : Counter) (s : State) : (bump c s).cfgInv = s.cfgInv := rfl
@[simp] theorem bump_speedSel (c : Counter) (s : State) : (bump c s).speedSel = s.speedSel := rfl
@[simp] theorem bump_sinkEn (c : Counter) (s : State) : (bump c s).sinkEn = s.sinkEn := rfl
@[simp] theorem bump_lineState (c : Counter) (s : State) : (bump c s).lineState = s.lineState := rfl
@[simp] theorem bump_txBitpos (c : Counter) (s : State) : (bump c s).txBitpos = s.txBitpos := rfl
@[simp] theorem bump_txByte (c : Counter) (s : State) : (bump c s).txByte = s.txByte := rfl
@[simp] theorem bump_rxBitpos (c : Counter) (s : State) : (bump c s).rxBitpos = s.rxBitpos := rfl
@[simp] theorem bump_rxShift (c : Counter) (s : State) : (bump c s).rxShift = s.rxShift := rfl
@[simp] theorem bump_prevL (c : Counter) (s : State) : (bump c s).prevL = s.prevL := rfl
@[simp] theorem bump_drive (c : Counter) (s : State) : (bump c s).drive = s.drive := rfl
@[simp] theorem bump_idleCount (c : Counter) (s : State) : (bump c s).idleCount = s.idleCount := rfl
@[simp] theorem bump_lastEvent (c : Counter) (s : State) : (bump c s).lastEvent = s.lastEvent := rfl
@[simp] theorem bump_backoffR (c : Counter) (s : State) : (bump c s).backoffR = s.backoffR := rfl
@[simp] theorem bump_txOutcome (c : Counter) (s : State) : (bump c s).txOutcome = s.txOutcome := rfl
@[simp] theorem bump_carrierSeen (c : Counter) (s : State) : (bump c s).carrierSeen = s.carrierSeen := rfl
@[simp] theorem bump_clDeadline (c : Counter) (s : State) : (bump c s).clDeadline = s.clDeadline := rfl
@[simp] theorem bump_clNotify (c : Counter) (s : State) : (bump c s).clNotify = s.clNotify := rfl
@[simp] theorem bump_txq (c : Counter) (s : State) : (bump c s).txq = s.txq := rfl
@[simp] theorem bump_inflight (c : Counter) (s : State) : (bump c s).inflight = s.inflight := rfl
@[simp] theorem bump_txb (c : Counter) (s : State) : (bump c s).txb = s.txb := rfl
@[simp] theorem bump_rxb (c : Counter) (s : State) : (bump c s).rxb = s.rxb := rfl
@[simp] theorem bump_asmState (c : Counter) (s : State) : (bump c s).asmState = s.asmState := rfl
@[simp] theorem bump_asmBuf (c : Counter) (s : State) : (bump c s).asmBuf = s.asmBuf := rfl
@[simp] theorem bump_asmExpect (c : Counter) (s : State) : (bump c s).asmExpect = s.asmExpect := rfl
@[simp] theorem bump_pending (c : Counter) (s : State) : (bump c s).pending = s.pending := rfl
@[simp] theorem bump_resultCode (c : Counter) (s : State) : (bump c s).resultCode = s.resultCode := rfl
@[simp] theorem bump_resultSeq (c : Counter) (s : State) : (bump c s).resultSeq = s.resultSeq := rfl
@[simp] theorem bump_cnt (c : Counter) (s : State) : (bump c s).cnt = s.cnt.set c (s.cnt.get c + 1#16) := rfl
@[simp] theorem bump_dispatch (c : Counter) (s : State) : (bump c s).dispatch = s.dispatch := rfl
@[simp] theorem bump_response (c : Counter) (s : State) : (bump c s).response = s.response := rfl
@[simp] theorem bump_input (c : Counter) (s : State) : (bump c s).input = s.input := rfl
@[simp] theorem bump_now (c : Counter) (s : State) : (bump c s).now = s.now := rfl
@[simp] theorem bump_draws (c : Counter) (s : State) : (bump c s).draws = s.draws := rfl

/-! ### count -/

@[simp] theorem count_params (e : ErrorEvent) (s : State) :
    (count e s).params = s.params := by cases e <;> rfl
@[simp] theorem count_cfgInvSh (e : ErrorEvent) (s : State) :
    (count e s).cfgInvSh = s.cfgInvSh := by cases e <;> rfl
@[simp] theorem count_cfgSpeedSh (e : ErrorEvent) (s : State) :
    (count e s).cfgSpeedSh = s.cfgSpeedSh := by cases e <;> rfl
@[simp] theorem count_cfgInv (e : ErrorEvent) (s : State) :
    (count e s).cfgInv = s.cfgInv := by cases e <;> rfl
@[simp] theorem count_speedSel (e : ErrorEvent) (s : State) :
    (count e s).speedSel = s.speedSel := by cases e <;> rfl
@[simp] theorem count_sinkEn (e : ErrorEvent) (s : State) :
    (count e s).sinkEn = s.sinkEn := by cases e <;> rfl
@[simp] theorem count_lineState (e : ErrorEvent) (s : State) :
    (count e s).lineState = s.lineState := by cases e <;> rfl
@[simp] theorem count_txBitpos (e : ErrorEvent) (s : State) :
    (count e s).txBitpos = s.txBitpos := by cases e <;> rfl
@[simp] theorem count_txByte (e : ErrorEvent) (s : State) :
    (count e s).txByte = s.txByte := by cases e <;> rfl
@[simp] theorem count_rxBitpos (e : ErrorEvent) (s : State) :
    (count e s).rxBitpos = s.rxBitpos := by cases e <;> rfl
@[simp] theorem count_rxShift (e : ErrorEvent) (s : State) :
    (count e s).rxShift = s.rxShift := by cases e <;> rfl
@[simp] theorem count_prevL (e : ErrorEvent) (s : State) : (count e s).prevL = s.prevL := by cases e <;> rfl
@[simp] theorem count_drive (e : ErrorEvent) (s : State) : (count e s).drive = s.drive := by cases e <;> rfl
@[simp] theorem count_idleCount (e : ErrorEvent) (s : State) :
    (count e s).idleCount = s.idleCount := by cases e <;> rfl
@[simp] theorem count_lastEvent (e : ErrorEvent) (s : State) :
    (count e s).lastEvent = s.lastEvent := by cases e <;> rfl
@[simp] theorem count_backoffR (e : ErrorEvent) (s : State) :
    (count e s).backoffR = s.backoffR := by cases e <;> rfl
@[simp] theorem count_txOutcome (e : ErrorEvent) (s : State) :
    (count e s).txOutcome = s.txOutcome := by cases e <;> rfl
@[simp] theorem count_carrierSeen (e : ErrorEvent) (s : State) :
    (count e s).carrierSeen = s.carrierSeen := by cases e <;> rfl
@[simp] theorem count_clDeadline (e : ErrorEvent) (s : State) :
    (count e s).clDeadline = s.clDeadline := by cases e <;> rfl
@[simp] theorem count_clNotify (e : ErrorEvent) (s : State) :
    (count e s).clNotify = s.clNotify := by cases e <;> rfl
@[simp] theorem count_txq (e : ErrorEvent) (s : State) : (count e s).txq = s.txq := by cases e <;> rfl
@[simp] theorem count_inflight (e : ErrorEvent) (s : State) :
    (count e s).inflight = s.inflight := by cases e <;> rfl
@[simp] theorem count_txb (e : ErrorEvent) (s : State) : (count e s).txb = s.txb := by cases e <;> rfl
@[simp] theorem count_rxb (e : ErrorEvent) (s : State) : (count e s).rxb = s.rxb := by cases e <;> rfl
@[simp] theorem count_asmState (e : ErrorEvent) (s : State) :
    (count e s).asmState = s.asmState := by cases e <;> rfl
@[simp] theorem count_asmBuf (e : ErrorEvent) (s : State) :
    (count e s).asmBuf = s.asmBuf := by cases e <;> rfl
@[simp] theorem count_asmExpect (e : ErrorEvent) (s : State) :
    (count e s).asmExpect = s.asmExpect := by cases e <;> rfl
@[simp] theorem count_pending (e : ErrorEvent) (s : State) :
    (count e s).pending = s.pending := by cases e <;> rfl
@[simp] theorem count_resultCode (e : ErrorEvent) (s : State) :
    (count e s).resultCode = s.resultCode := by cases e <;> rfl
@[simp] theorem count_resultSeq (e : ErrorEvent) (s : State) :
    (count e s).resultSeq = s.resultSeq := by cases e <;> rfl
@[simp] theorem count_cnt (e : ErrorEvent) (s : State) :
    (count e s).cnt = (match counterOf e with | some c => s.cnt.set c (s.cnt.get c + 1#16) | none => s.cnt) := by cases e <;> rfl
@[simp] theorem count_dispatch (e : ErrorEvent) (s : State) :
    (count e s).dispatch = s.dispatch := by cases e <;> rfl
@[simp] theorem count_response (e : ErrorEvent) (s : State) :
    (count e s).response = s.response := by cases e <;> rfl
@[simp] theorem count_input (e : ErrorEvent) (s : State) : (count e s).input = s.input := by cases e <;> rfl
@[simp] theorem count_now (e : ErrorEvent) (s : State) : (count e s).now = s.now := by cases e <;> rfl
@[simp] theorem count_draws (e : ErrorEvent) (s : State) : (count e s).draws = s.draws := by cases e <;> rfl

/-! ### backoffEvent -/

@[simp] theorem backoffEvent_params (e : BackoffEvent) (s : State) :
    (backoffEvent e s).params = s.params := rfl
@[simp] theorem backoffEvent_cfgInvSh (e : BackoffEvent) (s : State) :
    (backoffEvent e s).cfgInvSh = s.cfgInvSh := rfl
@[simp] theorem backoffEvent_cfgSpeedSh (e : BackoffEvent) (s : State) :
    (backoffEvent e s).cfgSpeedSh = s.cfgSpeedSh := rfl
@[simp] theorem backoffEvent_cfgInv (e : BackoffEvent) (s : State) :
    (backoffEvent e s).cfgInv = s.cfgInv := rfl
@[simp] theorem backoffEvent_speedSel (e : BackoffEvent) (s : State) :
    (backoffEvent e s).speedSel = s.speedSel := rfl
@[simp] theorem backoffEvent_sinkEn (e : BackoffEvent) (s : State) :
    (backoffEvent e s).sinkEn = s.sinkEn := rfl
@[simp] theorem backoffEvent_lineState (e : BackoffEvent) (s : State) :
    (backoffEvent e s).lineState = s.lineState := rfl
@[simp] theorem backoffEvent_txBitpos (e : BackoffEvent) (s : State) :
    (backoffEvent e s).txBitpos = s.txBitpos := rfl
@[simp] theorem backoffEvent_txByte (e : BackoffEvent) (s : State) :
    (backoffEvent e s).txByte = s.txByte := rfl
@[simp] theorem backoffEvent_rxBitpos (e : BackoffEvent) (s : State) :
    (backoffEvent e s).rxBitpos = s.rxBitpos := rfl
@[simp] theorem backoffEvent_rxShift (e : BackoffEvent) (s : State) :
    (backoffEvent e s).rxShift = s.rxShift := rfl
@[simp] theorem backoffEvent_prevL (e : BackoffEvent) (s : State) : (backoffEvent e s).prevL = s.prevL := rfl
@[simp] theorem backoffEvent_drive (e : BackoffEvent) (s : State) : (backoffEvent e s).drive = s.drive := rfl
@[simp] theorem backoffEvent_idleCount (e : BackoffEvent) (s : State) :
    (backoffEvent e s).idleCount = s.idleCount := rfl
@[simp] theorem backoffEvent_lastEvent (e : BackoffEvent) (s : State) :
    (backoffEvent e s).lastEvent = e := rfl
@[simp] theorem backoffEvent_backoffR (e : BackoffEvent) (s : State) :
    (backoffEvent e s).backoffR = draw s := rfl
@[simp] theorem backoffEvent_txOutcome (e : BackoffEvent) (s : State) :
    (backoffEvent e s).txOutcome = s.txOutcome := rfl
@[simp] theorem backoffEvent_carrierSeen (e : BackoffEvent) (s : State) :
    (backoffEvent e s).carrierSeen = s.carrierSeen := rfl
@[simp] theorem backoffEvent_clDeadline (e : BackoffEvent) (s : State) :
    (backoffEvent e s).clDeadline = s.clDeadline := rfl
@[simp] theorem backoffEvent_clNotify (e : BackoffEvent) (s : State) :
    (backoffEvent e s).clNotify = s.clNotify := rfl
@[simp] theorem backoffEvent_txq (e : BackoffEvent) (s : State) : (backoffEvent e s).txq = s.txq := rfl
@[simp] theorem backoffEvent_inflight (e : BackoffEvent) (s : State) :
    (backoffEvent e s).inflight = s.inflight := rfl
@[simp] theorem backoffEvent_txb (e : BackoffEvent) (s : State) : (backoffEvent e s).txb = s.txb := rfl
@[simp] theorem backoffEvent_rxb (e : BackoffEvent) (s : State) : (backoffEvent e s).rxb = s.rxb := rfl
@[simp] theorem backoffEvent_asmState (e : BackoffEvent) (s : State) :
    (backoffEvent e s).asmState = s.asmState := rfl
@[simp] theorem backoffEvent_asmBuf (e : BackoffEvent) (s : State) :
    (backoffEvent e s).asmBuf = s.asmBuf := rfl
@[simp] theorem backoffEvent_asmExpect (e : BackoffEvent) (s : State) :
    (backoffEvent e s).asmExpect = s.asmExpect := rfl
@[simp] theorem backoffEvent_pending (e : BackoffEvent) (s : State) :
    (backoffEvent e s).pending = s.pending := rfl
@[simp] theorem backoffEvent_resultCode (e : BackoffEvent) (s : State) :
    (backoffEvent e s).resultCode = s.resultCode := rfl
@[simp] theorem backoffEvent_resultSeq (e : BackoffEvent) (s : State) :
    (backoffEvent e s).resultSeq = s.resultSeq := rfl
@[simp] theorem backoffEvent_cnt (e : BackoffEvent) (s : State) : (backoffEvent e s).cnt = s.cnt := rfl
@[simp] theorem backoffEvent_dispatch (e : BackoffEvent) (s : State) :
    (backoffEvent e s).dispatch = s.dispatch := rfl
@[simp] theorem backoffEvent_response (e : BackoffEvent) (s : State) :
    (backoffEvent e s).response = s.response := rfl
@[simp] theorem backoffEvent_input (e : BackoffEvent) (s : State) : (backoffEvent e s).input = s.input := rfl
@[simp] theorem backoffEvent_now (e : BackoffEvent) (s : State) : (backoffEvent e s).now = s.now := rfl
@[simp] theorem backoffEvent_draws (e : BackoffEvent) (s : State) :
    (backoffEvent e s).draws = s.draws + 1 := rfl

/-! ### setResult -/

@[simp] theorem setResult_params (c : ResultCode) (s : State) : (setResult c s).params = s.params := rfl
@[simp] theorem setResult_cfgInvSh (c : ResultCode) (s : State) : (setResult c s).cfgInvSh = s.cfgInvSh := rfl
@[simp] theorem setResult_cfgSpeedSh (c : ResultCode) (s : State) :
    (setResult c s).cfgSpeedSh = s.cfgSpeedSh := rfl
@[simp] theorem setResult_cfgInv (c : ResultCode) (s : State) : (setResult c s).cfgInv = s.cfgInv := rfl
@[simp] theorem setResult_speedSel (c : ResultCode) (s : State) : (setResult c s).speedSel = s.speedSel := rfl
@[simp] theorem setResult_sinkEn (c : ResultCode) (s : State) : (setResult c s).sinkEn = s.sinkEn := rfl
@[simp] theorem setResult_lineState (c : ResultCode) (s : State) :
    (setResult c s).lineState = s.lineState := rfl
@[simp] theorem setResult_txBitpos (c : ResultCode) (s : State) : (setResult c s).txBitpos = s.txBitpos := rfl
@[simp] theorem setResult_txByte (c : ResultCode) (s : State) : (setResult c s).txByte = s.txByte := rfl
@[simp] theorem setResult_rxBitpos (c : ResultCode) (s : State) : (setResult c s).rxBitpos = s.rxBitpos := rfl
@[simp] theorem setResult_rxShift (c : ResultCode) (s : State) : (setResult c s).rxShift = s.rxShift := rfl
@[simp] theorem setResult_prevL (c : ResultCode) (s : State) : (setResult c s).prevL = s.prevL := rfl
@[simp] theorem setResult_drive (c : ResultCode) (s : State) : (setResult c s).drive = s.drive := rfl
@[simp] theorem setResult_idleCount (c : ResultCode) (s : State) :
    (setResult c s).idleCount = s.idleCount := rfl
@[simp] theorem setResult_lastEvent (c : ResultCode) (s : State) :
    (setResult c s).lastEvent = s.lastEvent := rfl
@[simp] theorem setResult_backoffR (c : ResultCode) (s : State) : (setResult c s).backoffR = s.backoffR := rfl
@[simp] theorem setResult_txOutcome (c : ResultCode) (s : State) :
    (setResult c s).txOutcome = s.txOutcome := rfl
@[simp] theorem setResult_carrierSeen (c : ResultCode) (s : State) :
    (setResult c s).carrierSeen = s.carrierSeen := rfl
@[simp] theorem setResult_clDeadline (c : ResultCode) (s : State) :
    (setResult c s).clDeadline = s.clDeadline := rfl
@[simp] theorem setResult_clNotify (c : ResultCode) (s : State) : (setResult c s).clNotify = s.clNotify := rfl
@[simp] theorem setResult_txq (c : ResultCode) (s : State) : (setResult c s).txq = s.txq := rfl
@[simp] theorem setResult_inflight (c : ResultCode) (s : State) : (setResult c s).inflight = s.inflight := rfl
@[simp] theorem setResult_txb (c : ResultCode) (s : State) : (setResult c s).txb = s.txb := rfl
@[simp] theorem setResult_rxb (c : ResultCode) (s : State) : (setResult c s).rxb = s.rxb := rfl
@[simp] theorem setResult_asmState (c : ResultCode) (s : State) : (setResult c s).asmState = s.asmState := rfl
@[simp] theorem setResult_asmBuf (c : ResultCode) (s : State) : (setResult c s).asmBuf = s.asmBuf := rfl
@[simp] theorem setResult_asmExpect (c : ResultCode) (s : State) :
    (setResult c s).asmExpect = s.asmExpect := rfl
@[simp] theorem setResult_pending (c : ResultCode) (s : State) : (setResult c s).pending = s.pending := rfl
@[simp] theorem setResult_resultCode (c : ResultCode) (s : State) : (setResult c s).resultCode = c := rfl
@[simp] theorem setResult_resultSeq (c : ResultCode) (s : State) :
    (setResult c s).resultSeq = s.resultSeq + 0x01#8 := rfl
@[simp] theorem setResult_cnt (c : ResultCode) (s : State) : (setResult c s).cnt = s.cnt := rfl
@[simp] theorem setResult_dispatch (c : ResultCode) (s : State) : (setResult c s).dispatch = s.dispatch := rfl
@[simp] theorem setResult_response (c : ResultCode) (s : State) : (setResult c s).response = s.response := rfl
@[simp] theorem setResult_input (c : ResultCode) (s : State) : (setResult c s).input = s.input := rfl
@[simp] theorem setResult_now (c : ResultCode) (s : State) : (setResult c s).now = s.now := rfl
@[simp] theorem setResult_draws (c : ResultCode) (s : State) : (setResult c s).draws = s.draws := rfl

/-! ### asmReset -/

@[simp] theorem asmReset_params (s : State) : (asmReset s).params = s.params := rfl
@[simp] theorem asmReset_cfgInvSh (s : State) : (asmReset s).cfgInvSh = s.cfgInvSh := rfl
@[simp] theorem asmReset_cfgSpeedSh (s : State) : (asmReset s).cfgSpeedSh = s.cfgSpeedSh := rfl
@[simp] theorem asmReset_cfgInv (s : State) : (asmReset s).cfgInv = s.cfgInv := rfl
@[simp] theorem asmReset_speedSel (s : State) : (asmReset s).speedSel = s.speedSel := rfl
@[simp] theorem asmReset_sinkEn (s : State) : (asmReset s).sinkEn = s.sinkEn := rfl
@[simp] theorem asmReset_lineState (s : State) : (asmReset s).lineState = s.lineState := rfl
@[simp] theorem asmReset_txBitpos (s : State) : (asmReset s).txBitpos = s.txBitpos := rfl
@[simp] theorem asmReset_txByte (s : State) : (asmReset s).txByte = s.txByte := rfl
@[simp] theorem asmReset_rxBitpos (s : State) : (asmReset s).rxBitpos = s.rxBitpos := rfl
@[simp] theorem asmReset_rxShift (s : State) : (asmReset s).rxShift = s.rxShift := rfl
@[simp] theorem asmReset_prevL (s : State) : (asmReset s).prevL = s.prevL := rfl
@[simp] theorem asmReset_drive (s : State) : (asmReset s).drive = s.drive := rfl
@[simp] theorem asmReset_idleCount (s : State) : (asmReset s).idleCount = s.idleCount := rfl
@[simp] theorem asmReset_lastEvent (s : State) : (asmReset s).lastEvent = s.lastEvent := rfl
@[simp] theorem asmReset_backoffR (s : State) : (asmReset s).backoffR = s.backoffR := rfl
@[simp] theorem asmReset_txOutcome (s : State) : (asmReset s).txOutcome = s.txOutcome := rfl
@[simp] theorem asmReset_carrierSeen (s : State) : (asmReset s).carrierSeen = s.carrierSeen := rfl
@[simp] theorem asmReset_clDeadline (s : State) : (asmReset s).clDeadline = s.clDeadline := rfl
@[simp] theorem asmReset_clNotify (s : State) : (asmReset s).clNotify = s.clNotify := rfl
@[simp] theorem asmReset_txq (s : State) : (asmReset s).txq = s.txq := rfl
@[simp] theorem asmReset_inflight (s : State) : (asmReset s).inflight = s.inflight := rfl
@[simp] theorem asmReset_txb (s : State) : (asmReset s).txb = s.txb := rfl
@[simp] theorem asmReset_rxb (s : State) : (asmReset s).rxb = s.rxb := rfl
@[simp] theorem asmReset_asmState (s : State) : (asmReset s).asmState = .waitOpc := rfl
@[simp] theorem asmReset_asmBuf (s : State) : (asmReset s).asmBuf = [] := rfl
@[simp] theorem asmReset_asmExpect (s : State) : (asmReset s).asmExpect = 0x00#8 := rfl
@[simp] theorem asmReset_pending (s : State) : (asmReset s).pending = s.pending := rfl
@[simp] theorem asmReset_resultCode (s : State) : (asmReset s).resultCode = s.resultCode := rfl
@[simp] theorem asmReset_resultSeq (s : State) : (asmReset s).resultSeq = s.resultSeq := rfl
@[simp] theorem asmReset_cnt (s : State) : (asmReset s).cnt = s.cnt := rfl
@[simp] theorem asmReset_dispatch (s : State) : (asmReset s).dispatch = s.dispatch := rfl
@[simp] theorem asmReset_response (s : State) : (asmReset s).response = s.response := rfl
@[simp] theorem asmReset_input (s : State) : (asmReset s).input = s.input := rfl
@[simp] theorem asmReset_now (s : State) : (asmReset s).now = s.now := rfl
@[simp] theorem asmReset_draws (s : State) : (asmReset s).draws = s.draws := rfl

/-! ### respond -/

@[simp] theorem respond_params (bs : List Byte) (s : State) : (respond bs s).params = s.params := rfl
@[simp] theorem respond_cfgInvSh (bs : List Byte) (s : State) : (respond bs s).cfgInvSh = s.cfgInvSh := rfl
@[simp] theorem respond_cfgSpeedSh (bs : List Byte) (s : State) :
    (respond bs s).cfgSpeedSh = s.cfgSpeedSh := rfl
@[simp] theorem respond_cfgInv (bs : List Byte) (s : State) : (respond bs s).cfgInv = s.cfgInv := rfl
@[simp] theorem respond_speedSel (bs : List Byte) (s : State) : (respond bs s).speedSel = s.speedSel := rfl
@[simp] theorem respond_sinkEn (bs : List Byte) (s : State) : (respond bs s).sinkEn = s.sinkEn := rfl
@[simp] theorem respond_lineState (bs : List Byte) (s : State) : (respond bs s).lineState = s.lineState := rfl
@[simp] theorem respond_txBitpos (bs : List Byte) (s : State) : (respond bs s).txBitpos = s.txBitpos := rfl
@[simp] theorem respond_txByte (bs : List Byte) (s : State) : (respond bs s).txByte = s.txByte := rfl
@[simp] theorem respond_rxBitpos (bs : List Byte) (s : State) : (respond bs s).rxBitpos = s.rxBitpos := rfl
@[simp] theorem respond_rxShift (bs : List Byte) (s : State) : (respond bs s).rxShift = s.rxShift := rfl
@[simp] theorem respond_prevL (bs : List Byte) (s : State) : (respond bs s).prevL = s.prevL := rfl
@[simp] theorem respond_drive (bs : List Byte) (s : State) : (respond bs s).drive = s.drive := rfl
@[simp] theorem respond_idleCount (bs : List Byte) (s : State) : (respond bs s).idleCount = s.idleCount := rfl
@[simp] theorem respond_lastEvent (bs : List Byte) (s : State) : (respond bs s).lastEvent = s.lastEvent := rfl
@[simp] theorem respond_backoffR (bs : List Byte) (s : State) : (respond bs s).backoffR = s.backoffR := rfl
@[simp] theorem respond_txOutcome (bs : List Byte) (s : State) : (respond bs s).txOutcome = s.txOutcome := rfl
@[simp] theorem respond_carrierSeen (bs : List Byte) (s : State) :
    (respond bs s).carrierSeen = s.carrierSeen := rfl
@[simp] theorem respond_clDeadline (bs : List Byte) (s : State) :
    (respond bs s).clDeadline = s.clDeadline := rfl
@[simp] theorem respond_clNotify (bs : List Byte) (s : State) : (respond bs s).clNotify = s.clNotify := rfl
@[simp] theorem respond_txq (bs : List Byte) (s : State) : (respond bs s).txq = s.txq := rfl
@[simp] theorem respond_inflight (bs : List Byte) (s : State) : (respond bs s).inflight = s.inflight := rfl
@[simp] theorem respond_txb (bs : List Byte) (s : State) : (respond bs s).txb = s.txb := rfl
@[simp] theorem respond_rxb (bs : List Byte) (s : State) : (respond bs s).rxb = s.rxb := rfl
@[simp] theorem respond_asmState (bs : List Byte) (s : State) : (respond bs s).asmState = s.asmState := rfl
@[simp] theorem respond_asmBuf (bs : List Byte) (s : State) : (respond bs s).asmBuf = s.asmBuf := rfl
@[simp] theorem respond_asmExpect (bs : List Byte) (s : State) : (respond bs s).asmExpect = s.asmExpect := rfl
@[simp] theorem respond_pending (bs : List Byte) (s : State) : (respond bs s).pending = s.pending := rfl
@[simp] theorem respond_resultCode (bs : List Byte) (s : State) :
    (respond bs s).resultCode = s.resultCode := rfl
@[simp] theorem respond_resultSeq (bs : List Byte) (s : State) : (respond bs s).resultSeq = s.resultSeq := rfl
@[simp] theorem respond_cnt (bs : List Byte) (s : State) : (respond bs s).cnt = s.cnt := rfl
@[simp] theorem respond_dispatch (bs : List Byte) (s : State) : (respond bs s).dispatch = s.dispatch := rfl
@[simp] theorem respond_response (bs : List Byte) (s : State) : (respond bs s).response = bs := rfl
@[simp] theorem respond_input (bs : List Byte) (s : State) : (respond bs s).input = s.input := rfl
@[simp] theorem respond_now (bs : List Byte) (s : State) : (respond bs s).now = s.now := rfl
@[simp] theorem respond_draws (bs : List Byte) (s : State) : (respond bs s).draws = s.draws := rfl

/-! ### illegal -/

@[simp] theorem illegal_params (s : State) : (illegal s).params = s.params := rfl
@[simp] theorem illegal_cfgInvSh (s : State) : (illegal s).cfgInvSh = s.cfgInvSh := rfl
@[simp] theorem illegal_cfgSpeedSh (s : State) : (illegal s).cfgSpeedSh = s.cfgSpeedSh := rfl
@[simp] theorem illegal_cfgInv (s : State) : (illegal s).cfgInv = s.cfgInv := rfl
@[simp] theorem illegal_speedSel (s : State) : (illegal s).speedSel = s.speedSel := rfl
@[simp] theorem illegal_sinkEn (s : State) : (illegal s).sinkEn = s.sinkEn := rfl
@[simp] theorem illegal_lineState (s : State) : (illegal s).lineState = s.lineState := rfl
@[simp] theorem illegal_txBitpos (s : State) : (illegal s).txBitpos = s.txBitpos := rfl
@[simp] theorem illegal_txByte (s : State) : (illegal s).txByte = s.txByte := rfl
@[simp] theorem illegal_rxBitpos (s : State) : (illegal s).rxBitpos = s.rxBitpos := rfl
@[simp] theorem illegal_rxShift (s : State) : (illegal s).rxShift = s.rxShift := rfl
@[simp] theorem illegal_prevL (s : State) : (illegal s).prevL = s.prevL := rfl
@[simp] theorem illegal_drive (s : State) : (illegal s).drive = s.drive := rfl
@[simp] theorem illegal_idleCount (s : State) : (illegal s).idleCount = s.idleCount := rfl
@[simp] theorem illegal_lastEvent (s : State) : (illegal s).lastEvent = s.lastEvent := rfl
@[simp] theorem illegal_backoffR (s : State) : (illegal s).backoffR = s.backoffR := rfl
@[simp] theorem illegal_txOutcome (s : State) : (illegal s).txOutcome = s.txOutcome := rfl
@[simp] theorem illegal_carrierSeen (s : State) : (illegal s).carrierSeen = s.carrierSeen := rfl
@[simp] theorem illegal_clDeadline (s : State) : (illegal s).clDeadline = s.clDeadline := rfl
@[simp] theorem illegal_clNotify (s : State) : (illegal s).clNotify = s.clNotify := rfl
@[simp] theorem illegal_txq (s : State) : (illegal s).txq = s.txq := rfl
@[simp] theorem illegal_inflight (s : State) : (illegal s).inflight = s.inflight := rfl
@[simp] theorem illegal_txb (s : State) : (illegal s).txb = s.txb := rfl
@[simp] theorem illegal_rxb (s : State) : (illegal s).rxb = s.rxb := rfl
@[simp] theorem illegal_asmState (s : State) : (illegal s).asmState = s.asmState := rfl
@[simp] theorem illegal_asmBuf (s : State) : (illegal s).asmBuf = s.asmBuf := rfl
@[simp] theorem illegal_asmExpect (s : State) : (illegal s).asmExpect = s.asmExpect := rfl
@[simp] theorem illegal_pending (s : State) : (illegal s).pending = s.pending := rfl
@[simp] theorem illegal_resultCode (s : State) : (illegal s).resultCode = s.resultCode := rfl
@[simp] theorem illegal_resultSeq (s : State) : (illegal s).resultSeq = s.resultSeq := rfl
@[simp] theorem illegal_cnt (s : State) : (illegal s).cnt = s.cnt := rfl
@[simp] theorem illegal_dispatch (s : State) : (illegal s).dispatch = s.dispatch := rfl
@[simp] theorem illegal_response (s : State) : (illegal s).response = [0x0F#8] := rfl
@[simp] theorem illegal_input (s : State) : (illegal s).input = s.input := rfl
@[simp] theorem illegal_now (s : State) : (illegal s).now = s.now := rfl
@[simp] theorem illegal_draws (s : State) : (illegal s).draws = s.draws := rfl

/-! ### issue -/

@[simp] theorem issue_params (r : OpRecord) (rest : List OpRecord) (s : State) :
    (issue r rest s).params = s.params := rfl
@[simp] theorem issue_cfgInvSh (r : OpRecord) (rest : List OpRecord) (s : State) :
    (issue r rest s).cfgInvSh = s.cfgInvSh := rfl
@[simp] theorem issue_cfgSpeedSh (r : OpRecord) (rest : List OpRecord) (s : State) :
    (issue r rest s).cfgSpeedSh = s.cfgSpeedSh := rfl
@[simp] theorem issue_cfgInv (r : OpRecord) (rest : List OpRecord) (s : State) :
    (issue r rest s).cfgInv = s.cfgInv := rfl
@[simp] theorem issue_speedSel (r : OpRecord) (rest : List OpRecord) (s : State) :
    (issue r rest s).speedSel = s.speedSel := rfl
@[simp] theorem issue_sinkEn (r : OpRecord) (rest : List OpRecord) (s : State) :
    (issue r rest s).sinkEn = s.sinkEn := rfl
@[simp] theorem issue_lineState (r : OpRecord) (rest : List OpRecord) (s : State) :
    (issue r rest s).lineState = s.lineState := rfl
@[simp] theorem issue_txBitpos (r : OpRecord) (rest : List OpRecord) (s : State) :
    (issue r rest s).txBitpos = s.txBitpos := rfl
@[simp] theorem issue_txByte (r : OpRecord) (rest : List OpRecord) (s : State) :
    (issue r rest s).txByte = s.txByte := rfl
@[simp] theorem issue_rxBitpos (r : OpRecord) (rest : List OpRecord) (s : State) :
    (issue r rest s).rxBitpos = s.rxBitpos := rfl
@[simp] theorem issue_rxShift (r : OpRecord) (rest : List OpRecord) (s : State) :
    (issue r rest s).rxShift = s.rxShift := rfl
@[simp] theorem issue_prevL (r : OpRecord) (rest : List OpRecord) (s : State) :
    (issue r rest s).prevL = s.prevL := rfl
@[simp] theorem issue_drive (r : OpRecord) (rest : List OpRecord) (s : State) :
    (issue r rest s).drive = s.drive := rfl
@[simp] theorem issue_idleCount (r : OpRecord) (rest : List OpRecord) (s : State) :
    (issue r rest s).idleCount = s.idleCount := rfl
@[simp] theorem issue_lastEvent (r : OpRecord) (rest : List OpRecord) (s : State) :
    (issue r rest s).lastEvent = s.lastEvent := rfl
@[simp] theorem issue_backoffR (r : OpRecord) (rest : List OpRecord) (s : State) :
    (issue r rest s).backoffR = s.backoffR := rfl
@[simp] theorem issue_txOutcome (r : OpRecord) (rest : List OpRecord) (s : State) :
    (issue r rest s).txOutcome = s.txOutcome := rfl
@[simp] theorem issue_carrierSeen (r : OpRecord) (rest : List OpRecord) (s : State) :
    (issue r rest s).carrierSeen = s.carrierSeen := rfl
@[simp] theorem issue_clDeadline (r : OpRecord) (rest : List OpRecord) (s : State) :
    (issue r rest s).clDeadline = s.clDeadline := rfl
@[simp] theorem issue_clNotify (r : OpRecord) (rest : List OpRecord) (s : State) :
    (issue r rest s).clNotify = s.clNotify := rfl
@[simp] theorem issue_txq (r : OpRecord) (rest : List OpRecord) (s : State) :
    (issue r rest s).txq = s.txq := rfl
@[simp] theorem issue_inflight (r : OpRecord) (rest : List OpRecord) (s : State) :
    (issue r rest s).inflight = s.inflight := rfl
@[simp] theorem issue_txb (r : OpRecord) (rest : List OpRecord) (s : State) :
    (issue r rest s).txb = s.txb := rfl
@[simp] theorem issue_rxb (r : OpRecord) (rest : List OpRecord) (s : State) :
    (issue r rest s).rxb = s.rxb := rfl
@[simp] theorem issue_asmState (r : OpRecord) (rest : List OpRecord) (s : State) :
    (issue r rest s).asmState = s.asmState := rfl
@[simp] theorem issue_asmBuf (r : OpRecord) (rest : List OpRecord) (s : State) :
    (issue r rest s).asmBuf = s.asmBuf := rfl
@[simp] theorem issue_asmExpect (r : OpRecord) (rest : List OpRecord) (s : State) :
    (issue r rest s).asmExpect = s.asmExpect := rfl
@[simp] theorem issue_pending (r : OpRecord) (rest : List OpRecord) (s : State) :
    (issue r rest s).pending = s.pending := rfl
@[simp] theorem issue_resultCode (r : OpRecord) (rest : List OpRecord) (s : State) :
    (issue r rest s).resultCode = s.resultCode := rfl
@[simp] theorem issue_resultSeq (r : OpRecord) (rest : List OpRecord) (s : State) :
    (issue r rest s).resultSeq = s.resultSeq := rfl
@[simp] theorem issue_cnt (r : OpRecord) (rest : List OpRecord) (s : State) :
    (issue r rest s).cnt = s.cnt := rfl
@[simp] theorem issue_dispatch (r : OpRecord) (rest : List OpRecord) (s : State) :
    (issue r rest s).dispatch = s.dispatch := rfl
@[simp] theorem issue_response (r : OpRecord) (rest : List OpRecord) (s : State) :
    (issue r rest s).response = [] := rfl
@[simp] theorem issue_input (r : OpRecord) (rest : List OpRecord) (s : State) :
    (issue r rest s).input = rest := rfl
@[simp] theorem issue_now (r : OpRecord) (rest : List OpRecord) (s : State) :
    (issue r rest s).now = r.now := rfl
@[simp] theorem issue_draws (r : OpRecord) (rest : List OpRecord) (s : State) :
    (issue r rest s).draws = s.draws := rfl

/-! ### latchConfig -/

@[simp] theorem latchConfig_params (s : State) : (latchConfig s).params = s.params := rfl
@[simp] theorem latchConfig_cfgInvSh (s : State) : (latchConfig s).cfgInvSh = s.cfgInvSh := rfl
@[simp] theorem latchConfig_cfgSpeedSh (s : State) : (latchConfig s).cfgSpeedSh = s.cfgSpeedSh := rfl
@[simp] theorem latchConfig_cfgInv (s : State) : (latchConfig s).cfgInv = s.cfgInvSh := rfl
@[simp] theorem latchConfig_speedSel (s : State) : (latchConfig s).speedSel = s.cfgSpeedSh := rfl
@[simp] theorem latchConfig_sinkEn (s : State) : (latchConfig s).sinkEn = s.sinkEn := rfl
@[simp] theorem latchConfig_lineState (s : State) : (latchConfig s).lineState = s.lineState := rfl
@[simp] theorem latchConfig_txBitpos (s : State) : (latchConfig s).txBitpos = s.txBitpos := rfl
@[simp] theorem latchConfig_txByte (s : State) : (latchConfig s).txByte = s.txByte := rfl
@[simp] theorem latchConfig_rxBitpos (s : State) : (latchConfig s).rxBitpos = s.rxBitpos := rfl
@[simp] theorem latchConfig_rxShift (s : State) : (latchConfig s).rxShift = s.rxShift := rfl
@[simp] theorem latchConfig_prevL (s : State) : (latchConfig s).prevL = s.prevL := rfl
@[simp] theorem latchConfig_drive (s : State) : (latchConfig s).drive = s.drive := rfl
@[simp] theorem latchConfig_idleCount (s : State) : (latchConfig s).idleCount = s.idleCount := rfl
@[simp] theorem latchConfig_lastEvent (s : State) : (latchConfig s).lastEvent = s.lastEvent := rfl
@[simp] theorem latchConfig_backoffR (s : State) : (latchConfig s).backoffR = s.backoffR := rfl
@[simp] theorem latchConfig_txOutcome (s : State) : (latchConfig s).txOutcome = s.txOutcome := rfl
@[simp] theorem latchConfig_carrierSeen (s : State) : (latchConfig s).carrierSeen = s.carrierSeen := rfl
@[simp] theorem latchConfig_clDeadline (s : State) : (latchConfig s).clDeadline = s.clDeadline := rfl
@[simp] theorem latchConfig_clNotify (s : State) : (latchConfig s).clNotify = s.clNotify := rfl
@[simp] theorem latchConfig_txq (s : State) : (latchConfig s).txq = s.txq := rfl
@[simp] theorem latchConfig_inflight (s : State) : (latchConfig s).inflight = s.inflight := rfl
@[simp] theorem latchConfig_txb (s : State) : (latchConfig s).txb = s.txb := rfl
@[simp] theorem latchConfig_rxb (s : State) : (latchConfig s).rxb = s.rxb := rfl
@[simp] theorem latchConfig_asmState (s : State) : (latchConfig s).asmState = s.asmState := rfl
@[simp] theorem latchConfig_asmBuf (s : State) : (latchConfig s).asmBuf = s.asmBuf := rfl
@[simp] theorem latchConfig_asmExpect (s : State) : (latchConfig s).asmExpect = s.asmExpect := rfl
@[simp] theorem latchConfig_pending (s : State) : (latchConfig s).pending = s.pending := rfl
@[simp] theorem latchConfig_resultCode (s : State) : (latchConfig s).resultCode = s.resultCode := rfl
@[simp] theorem latchConfig_resultSeq (s : State) : (latchConfig s).resultSeq = s.resultSeq := rfl
@[simp] theorem latchConfig_cnt (s : State) : (latchConfig s).cnt = s.cnt := rfl
@[simp] theorem latchConfig_dispatch (s : State) : (latchConfig s).dispatch = s.dispatch := rfl
@[simp] theorem latchConfig_response (s : State) : (latchConfig s).response = s.response := rfl
@[simp] theorem latchConfig_input (s : State) : (latchConfig s).input = s.input := rfl
@[simp] theorem latchConfig_now (s : State) : (latchConfig s).now = s.now := rfl
@[simp] theorem latchConfig_draws (s : State) : (latchConfig s).draws = s.draws := rfl

/-! ### flushQueue -/

@[simp] theorem flushQueue_params (s : State) : (flushQueue s).params = s.params := rfl
@[simp] theorem flushQueue_cfgInvSh (s : State) : (flushQueue s).cfgInvSh = s.cfgInvSh := rfl
@[simp] theorem flushQueue_cfgSpeedSh (s : State) : (flushQueue s).cfgSpeedSh = s.cfgSpeedSh := rfl
@[simp] theorem flushQueue_cfgInv (s : State) : (flushQueue s).cfgInv = s.cfgInv := rfl
@[simp] theorem flushQueue_speedSel (s : State) : (flushQueue s).speedSel = s.speedSel := rfl
@[simp] theorem flushQueue_sinkEn (s : State) : (flushQueue s).sinkEn = s.sinkEn := rfl
@[simp] theorem flushQueue_lineState (s : State) : (flushQueue s).lineState = s.lineState := rfl
@[simp] theorem flushQueue_txBitpos (s : State) : (flushQueue s).txBitpos = s.txBitpos := rfl
@[simp] theorem flushQueue_txByte (s : State) : (flushQueue s).txByte = s.txByte := rfl
@[simp] theorem flushQueue_rxBitpos (s : State) : (flushQueue s).rxBitpos = s.rxBitpos := rfl
@[simp] theorem flushQueue_rxShift (s : State) : (flushQueue s).rxShift = s.rxShift := rfl
@[simp] theorem flushQueue_prevL (s : State) : (flushQueue s).prevL = s.prevL := rfl
@[simp] theorem flushQueue_drive (s : State) : (flushQueue s).drive = s.drive := rfl
@[simp] theorem flushQueue_idleCount (s : State) : (flushQueue s).idleCount = s.idleCount := rfl
@[simp] theorem flushQueue_lastEvent (s : State) : (flushQueue s).lastEvent = s.lastEvent := rfl
@[simp] theorem flushQueue_backoffR (s : State) : (flushQueue s).backoffR = s.backoffR := rfl
@[simp] theorem flushQueue_txOutcome (s : State) : (flushQueue s).txOutcome = s.txOutcome := rfl
@[simp] theorem flushQueue_carrierSeen (s : State) : (flushQueue s).carrierSeen = s.carrierSeen := rfl
@[simp] theorem flushQueue_clDeadline (s : State) : (flushQueue s).clDeadline = s.clDeadline := rfl
@[simp] theorem flushQueue_clNotify (s : State) : (flushQueue s).clNotify = s.clNotify := rfl
@[simp] theorem flushQueue_txq (s : State) : (flushQueue s).txq = [] := rfl
@[simp] theorem flushQueue_inflight (s : State) : (flushQueue s).inflight = s.inflight := rfl
@[simp] theorem flushQueue_txb (s : State) : (flushQueue s).txb = s.txb := rfl
@[simp] theorem flushQueue_rxb (s : State) : (flushQueue s).rxb = s.rxb := rfl
@[simp] theorem flushQueue_asmState (s : State) : (flushQueue s).asmState = s.asmState := rfl
@[simp] theorem flushQueue_asmBuf (s : State) : (flushQueue s).asmBuf = s.asmBuf := rfl
@[simp] theorem flushQueue_asmExpect (s : State) : (flushQueue s).asmExpect = s.asmExpect := rfl
@[simp] theorem flushQueue_pending (s : State) : (flushQueue s).pending = s.pending := rfl
@[simp] theorem flushQueue_resultCode (s : State) : (flushQueue s).resultCode = s.resultCode := rfl
@[simp] theorem flushQueue_resultSeq (s : State) : (flushQueue s).resultSeq = s.resultSeq := rfl
@[simp] theorem flushQueue_cnt (s : State) : (flushQueue s).cnt = s.cnt := rfl
@[simp] theorem flushQueue_dispatch (s : State) : (flushQueue s).dispatch = s.dispatch := rfl
@[simp] theorem flushQueue_response (s : State) : (flushQueue s).response = s.response := rfl
@[simp] theorem flushQueue_input (s : State) : (flushQueue s).input = s.input := rfl
@[simp] theorem flushQueue_now (s : State) : (flushQueue s).now = s.now := rfl
@[simp] theorem flushQueue_draws (s : State) : (flushQueue s).draws = s.draws := rfl

/-! ### resetEngine -/

@[simp] theorem resetEngine_params (s : State) : (resetEngine s).params = s.params := rfl
@[simp] theorem resetEngine_cfgInvSh (s : State) :
    (resetEngine s).cfgInvSh = (State.resetOf s.params).cfgInvSh := rfl
@[simp] theorem resetEngine_cfgSpeedSh (s : State) :
    (resetEngine s).cfgSpeedSh = (State.resetOf s.params).cfgSpeedSh := rfl
@[simp] theorem resetEngine_cfgInv (s : State) :
    (resetEngine s).cfgInv = (State.resetOf s.params).cfgInv := rfl
@[simp] theorem resetEngine_speedSel (s : State) :
    (resetEngine s).speedSel = (State.resetOf s.params).speedSel := rfl
@[simp] theorem resetEngine_sinkEn (s : State) :
    (resetEngine s).sinkEn = (State.resetOf s.params).sinkEn := rfl
@[simp] theorem resetEngine_lineState (s : State) :
    (resetEngine s).lineState = (State.resetOf s.params).lineState := rfl
@[simp] theorem resetEngine_txBitpos (s : State) :
    (resetEngine s).txBitpos = (State.resetOf s.params).txBitpos := rfl
@[simp] theorem resetEngine_txByte (s : State) :
    (resetEngine s).txByte = Config.resetTxByte s.params.drawSource s.draws := rfl
@[simp] theorem resetEngine_rxBitpos (s : State) :
    (resetEngine s).rxBitpos = (State.resetOf s.params).rxBitpos := rfl
@[simp] theorem resetEngine_rxShift (s : State) :
    (resetEngine s).rxShift = Config.resetRxShift s.params.drawSource s.draws := rfl
@[simp] theorem resetEngine_prevL (s : State) : (resetEngine s).prevL = (State.resetOf s.params).prevL := rfl
@[simp] theorem resetEngine_drive (s : State) : (resetEngine s).drive = (State.resetOf s.params).drive := rfl
@[simp] theorem resetEngine_idleCount (s : State) :
    (resetEngine s).idleCount = (State.resetOf s.params).idleCount := rfl
@[simp] theorem resetEngine_lastEvent (s : State) :
    (resetEngine s).lastEvent = (State.resetOf s.params).lastEvent := rfl
@[simp] theorem resetEngine_backoffR (s : State) :
    (resetEngine s).backoffR = (State.resetOf s.params).backoffR := rfl
@[simp] theorem resetEngine_txOutcome (s : State) :
    (resetEngine s).txOutcome = (State.resetOf s.params).txOutcome := rfl
@[simp] theorem resetEngine_carrierSeen (s : State) :
    (resetEngine s).carrierSeen = (State.resetOf s.params).carrierSeen := rfl
@[simp] theorem resetEngine_clDeadline (s : State) :
    (resetEngine s).clDeadline = (State.resetOf s.params).clDeadline := rfl
@[simp] theorem resetEngine_clNotify (s : State) :
    (resetEngine s).clNotify = (State.resetOf s.params).clNotify := rfl
@[simp] theorem resetEngine_txq (s : State) : (resetEngine s).txq = (State.resetOf s.params).txq := rfl
@[simp] theorem resetEngine_inflight (s : State) :
    (resetEngine s).inflight = (State.resetOf s.params).inflight := rfl
@[simp] theorem resetEngine_txb (s : State) : (resetEngine s).txb = (State.resetOf s.params).txb := rfl
@[simp] theorem resetEngine_rxb (s : State) : (resetEngine s).rxb = (State.resetOf s.params).rxb := rfl
@[simp] theorem resetEngine_asmState (s : State) :
    (resetEngine s).asmState = (State.resetOf s.params).asmState := rfl
@[simp] theorem resetEngine_asmBuf (s : State) :
    (resetEngine s).asmBuf = (State.resetOf s.params).asmBuf := rfl
@[simp] theorem resetEngine_asmExpect (s : State) :
    (resetEngine s).asmExpect = (State.resetOf s.params).asmExpect := rfl
@[simp] theorem resetEngine_pending (s : State) :
    (resetEngine s).pending = (State.resetOf s.params).pending := rfl
@[simp] theorem resetEngine_resultCode (s : State) :
    (resetEngine s).resultCode = (State.resetOf s.params).resultCode := rfl
@[simp] theorem resetEngine_resultSeq (s : State) :
    (resetEngine s).resultSeq = (State.resetOf s.params).resultSeq := rfl
@[simp] theorem resetEngine_cnt (s : State) : (resetEngine s).cnt = (State.resetOf s.params).cnt := rfl
@[simp] theorem resetEngine_dispatch (s : State) : (resetEngine s).dispatch = s.dispatch := rfl
@[simp] theorem resetEngine_response (s : State) : (resetEngine s).response = s.response := rfl
@[simp] theorem resetEngine_input (s : State) : (resetEngine s).input = s.input := rfl
@[simp] theorem resetEngine_now (s : State) : (resetEngine s).now = s.now := rfl
@[simp] theorem resetEngine_draws (s : State) : (resetEngine s).draws = s.draws + 1 := rfl

/-! ### bump and count, counter by counter -/

theorem bump_get (c d : Counter) (s : State) :
    (bump c s).cnt.get d = if d = c then s.cnt.get c + 1#16 else s.cnt.get d := by
  by_cases h : d = c
  · subst h; simp
  · simp [h]

theorem count_get (e : ErrorEvent) (d : Counter) (s : State) :
    (count e s).cnt.get d = if counterOf e = some d then s.cnt.get d + 1#16 else s.cnt.get d := by
  cases e <;> cases d <;> rfl

/-- An error event that R300 gives no counter changes nothing. -/
theorem count_uncounted (e : ErrorEvent) (s : State) (h : counterOf e = none) : count e s = s := by
  simp [count, h]

@[simp] theorem illegal_eq (s : State) : illegal s = respond [0x0F#8] s := rfl

end Sys2Proof.Machine
end

