-- ==== Sys2Proof/Laws/Ops.lean ====
section
/-! SUPPORT. For each shared operation, once, everything it can do; and for each operation with branches,
which fields it can touch. Later proofs cite these instead of unfolding. -/

namespace Sys2Proof.Machine

theorem instanceParams_ok : Config.instanceParams.Ok := by
  unfold Config.instanceParams
  split
  · assumption
  · decide

/-! ### Draws -/

theorem draw_le (s : State) (h : s.params.backoffRandMax < 65536) :
    (draw s).toNat ≤ s.params.backoffRandMax := by
  unfold draw
  split
  · simp
  · have h1 : Config.freeDraw s.params.drawSource s.draws % (s.params.backoffRandMax + 1)
      < s.params.backoffRandMax + 1 :=
      Nat.mod_lt _ (Nat.succ_pos _)
    rw [BitVec.toNat_ofNat, Nat.mod_eq_of_lt (by omega)]
    omega

/-! ### Bits and counters of a character -/

/-- Writing bit `k` of a byte writes that bit and leaves the others (R147). -/
theorem setBit_getLsbD (v : Byte) (k : Fin 8) (b : Bool) (j : Nat) (hj : j < 8) :
    (setBit v k.val b).getLsbD j = if j = k.val then b else v.getLsbD j := by
  have hk := k.isLt
  unfold setBit
  simp only [BitVec.getLsbD_or, BitVec.getLsbD_and, BitVec.getLsbD_not, BitVec.getLsbD_shiftLeft,
    BitVec.getLsbD_setWidth, BitVec.getLsbD_ofBool, BitVec.getLsbD_one, hj]
  rcases Nat.lt_trichotomy j k.val with h | h | h
  · simp [h, Nat.ne_of_lt h]
  · subst h; simp
  · have h1 : ¬ j < k.val := by omega
    have h2 : j - k.val ≠ 0 := by omega
    have h3 : ¬ j = k.val := by omega
    simp [h1, h2, h3]

/-- The idle counter's increment saturates at 65535 (R45, R150). -/
theorem satSucc_toNat (n : Half) : (satSucc n).toNat = min (n.toNat + 1) 65535 := by
  unfold satSucc; rw [BitVec.toNat_ofNat]; omega

/-- The bit after data bit `k` has the next rx_bitpos (R147). -/
theorem rxNext_number (k : Fin 8) : rxBitNumber (rxNext k) = k.val + 2 := by
  unfold rxNext; split <;> simp [rxBitNumber] <;> omega

/-! ### Rings and the assembler's entry points -/

theorem pushRxb_cases (e : RxEntry) (s : State) :
    (s.rxb.length < s.params.rxbCap ∧ pushRxb e s = { s with rxb := s.rxb ++ [e] }) ∨
    (s.params.rxbCap ≤ s.rxb.length ∧ pushRxb e s = bump .rxOverrun s) := by
  unfold pushRxb
  split
  · exact .inl ⟨‹_›, rfl⟩
  · exact .inr ⟨by omega, rfl⟩

theorem abortPartial_cases (s : State) :
    (s.asmState = .waitOpc ∧ abortPartial s = s) ∨
    (s.asmState ≠ .waitOpc ∧ abortPartial s = bump .framingErr s) := by
  unfold abortPartial
  split
  · exact .inl ⟨‹_›, rfl⟩
  · exact .inr ⟨‹_›, rfl⟩

theorem abortPartial_frame (s : State) : abortPartial s = { s with cnt := (abortPartial s).cnt } := by
  rcases abortPartial_cases s with ⟨-, h⟩ | ⟨-, h⟩
  · rw [h]
  · rw [h]; rfl

theorem complete_cases (f : Frame) (s : State) :
    (valid f = true ∧ complete f s = dispatchFrame f (correlate f (backoffEvent .msg (bump .rxFrames s)))) ∨
    (valid f = false ∧ complete f s = bump .cksumErr s) := by
  unfold complete
  cases h : valid f <;> simp [count, counterOf]

theorem dispatchFrame_frame (f : Frame) (s : State) :
    dispatchFrame f s = { s with dispatch := if s.sinkEn then s.dispatch ++ [f] else s.dispatch } := by
  unfold dispatchFrame
  by_cases h : s.sinkEn = true
  · rw [if_pos h, if_pos h]
  · rw [if_neg h, if_neg h]

theorem correlate_cases (f : Frame) (s : State) :
    ((∃ p, s.pending = some p ∧ answers s.params.matchKey f p = true) ∧
      correlate f s = { setResult .replyReceived s with pending := none }) ∨
    ((∀ p, s.pending = some p → answers s.params.matchKey f p = false) ∧ correlate f s = s) := by
  unfold correlate
  cases h : s.pending with
  | none => exact .inr ⟨by simp, rfl⟩
  | some p =>
    cases ha : answers s.params.matchKey f p
    · exact .inr ⟨by simp [ha], by simp [ha]⟩
    · exact .inl ⟨⟨p, rfl, ha⟩, by simp [ha]⟩

theorem correlate_frame (f : Frame) (s : State) :
    correlate f s =
      { s with
        resultCode := (correlate f s).resultCode
        resultSeq := (correlate f s).resultSeq
        pending := (correlate f s).pending } := by
  rcases correlate_cases f s with ⟨-, h⟩ | ⟨-, h⟩
  · rw [h]; rfl
  · rw [h]

/-- What completing a frame can touch (R196). -/
theorem complete_frame (f : Frame) (s : State) :
    complete f s =
      { s with
        lastEvent := (complete f s).lastEvent
        backoffR := (complete f s).backoffR
        draws := (complete f s).draws
        pending := (complete f s).pending
        resultCode := (complete f s).resultCode
        resultSeq := (complete f s).resultSeq
        cnt := (complete f s).cnt
        dispatch := (complete f s).dispatch } := by
  rcases complete_cases f s with ⟨-, h⟩ | ⟨-, h⟩ <;> rw [h]
  · rw [dispatchFrame_frame, correlate_frame]; rfl
  · rfl

theorem assembleData_cases (b : Byte) (s : State) :
    (s.asmState = .waitOpc ∧ assembleData b s = bump .framingErr s) ∨
    (s.asmState = .waitLen ∧ (b.toNat < 3 ∨ s.params.maxFrame < b.toNat) ∧
      assembleData b s = bump .framingErr (asmReset s)) ∨
    (s.asmState = .waitLen ∧ 3 ≤ b.toNat ∧ b.toNat ≤ s.params.maxFrame ∧
      assembleData b s = { s with asmBuf := s.asmBuf ++ [b], asmExpect := b, asmState := .waitPayload }) ∨
    (s.asmState = .waitPayload ∧ s.asmBuf.length + 1 ≠ s.asmExpect.toNat ∧
      assembleData b s = { s with asmBuf := s.asmBuf ++ [b] }) ∨
    (s.asmState = .waitPayload ∧ s.asmBuf.length + 1 = s.asmExpect.toNat ∧
      assembleData b s =
        asmReset (complete (s.asmBuf ++ [b]) { s with asmBuf := s.asmBuf ++ [b] })) := by
  unfold assembleData
  cases h : s.asmState with
  | waitOpc => exact .inl ⟨rfl, rfl⟩
  | waitLen =>
    by_cases hb : b.toNat < 3 ∨ s.params.maxFrame < b.toNat
    · exact .inr (.inl ⟨rfl, hb, by simp only [hb, if_true]; rfl⟩)
    · exact .inr (.inr (.inl ⟨rfl, by omega, by omega, by simp [hb]⟩))
  | waitPayload =>
    by_cases hl : s.asmBuf.length + 1 = s.asmExpect.toNat
    · exact .inr (.inr (.inr (.inr ⟨rfl, hl, by simp [hl]⟩)))
    · exact .inr (.inr (.inr (.inl ⟨rfl, hl, by simp [hl]⟩)))

theorem startFixed_frame (n b : Byte) (s : State) :
    startFixed n b s =
      { s with cnt := (abortPartial s).cnt, asmBuf := [b], asmExpect := n, asmState := .waitPayload } := by
  unfold startFixed; rw [abortPartial_frame]

theorem startVariable_frame (b : Byte) (s : State) :
    startVariable b s =
      { s with cnt := (abortPartial s).cnt, asmBuf := [b], asmExpect := 0x00#8, asmState := .waitLen } := by
  unfold startVariable; rw [abortPartial_frame]

/-- What a character can do to the assembler (R197): it starts a frame of a fixed class, starts one of the
variable class, or is a data byte. -/
theorem assembleByte_cases (b : Byte) (s : State) :
    (∃ n, decodeLength b = .fixed n ∧ assembleByte b s = startFixed (BitVec.ofNat 8 n) b s) ∨
    (decodeLength b = .variableLen ∧ assembleByte b s = startVariable b s) ∨
    (decodeLength b = .notOpcode ∧ assembleByte b s = assembleData b s) := by
  unfold assembleByte
  cases h : decodeLength b with
  | fixed n => exact .inl ⟨n, rfl, rfl⟩
  | variableLen => exact .inr (.inl ⟨rfl, rfl⟩)
  | notOpcode => exact .inr (.inr ⟨rfl, rfl⟩)

theorem assemble_cases (e : RxEntry) (s : State) :
    (e.err = true ∧ assemble e s = bump .framingErr (asmReset s)) ∨
    (e.err = false ∧ assemble e s = assembleByte e.byte s) := by
  unfold assemble
  cases h : e.err
  · exact .inr ⟨rfl, rfl⟩
  · exact .inl ⟨rfl, rfl⟩

/-- What assembling one entry can touch (R197): the assembler's own elements and what completing a frame
touches. -/
theorem assemble_frame (e : RxEntry) (s : State) :
    assemble e s =
      { s with
        asmState := (assemble e s).asmState
        asmBuf := (assemble e s).asmBuf
        asmExpect := (assemble e s).asmExpect
        lastEvent := (assemble e s).lastEvent
        backoffR := (assemble e s).backoffR
        draws := (assemble e s).draws
        pending := (assemble e s).pending
        resultCode := (assemble e s).resultCode
        resultSeq := (assemble e s).resultSeq
        cnt := (assemble e s).cnt
        dispatch := (assemble e s).dispatch } := by
  rcases assemble_cases e s with ⟨-, h⟩ | ⟨-, h⟩
  · rw [h]; rfl
  · rw [h]
    rcases assembleByte_cases e.byte s with ⟨n, -, h⟩ | ⟨-, h⟩ | ⟨-, h⟩
    · rw [h, startFixed_frame]
    · rw [h, startVariable_frame]
    · rw [h]
      rcases assembleData_cases e.byte s with ⟨-, h⟩ | ⟨-, -, h⟩ | ⟨-, -, -, h⟩ | ⟨-, -, h⟩ | ⟨-, -, h⟩
      · rw [h]; rfl
      · rw [h]; rfl
      · rw [h]
      · rw [h]
      · rw [h, complete_frame]; rfl

theorem drainEntries_frame (es : List RxEntry) (s : State) :
    drainEntries es s =
      { s with
        rxb := []
        asmState := (drainEntries es s).asmState
        asmBuf := (drainEntries es s).asmBuf
        asmExpect := (drainEntries es s).asmExpect
        lastEvent := (drainEntries es s).lastEvent
        backoffR := (drainEntries es s).backoffR
        draws := (drainEntries es s).draws
        pending := (drainEntries es s).pending
        resultCode := (drainEntries es s).resultCode
        resultSeq := (drainEntries es s).resultSeq
        cnt := (drainEntries es s).cnt
        dispatch := (drainEntries es s).dispatch } := by
  induction es generalizing s with
  | nil => rfl
  | cons e rest ih => rw [drainEntries, ih, assemble_frame]

/-- assemble does not read RXB (R197). -/
theorem assemble_rxb (e : RxEntry) (s : State) (r : List RxEntry) :
    assemble e { s with rxb := r } = { assemble e s with rxb := r } := by
  have hd : ∀ (f : Frame) (u : State),
      dispatchFrame f { u with rxb := r } = { dispatchFrame f u with rxb := r } := by
    intro f u; rw [dispatchFrame_frame, dispatchFrame_frame]
  have hk : ∀ (f : Frame) (u : State),
      correlate f { u with rxb := r } = { correlate f u with rxb := r } := by
    intro f u
    rcases correlate_cases f u with ⟨⟨p, hp, ha⟩, h⟩ | ⟨hn, h⟩ <;>
      rcases correlate_cases f { u with rxb := r } with ⟨⟨q, hq, hb⟩, g⟩ | ⟨gn, g⟩
    · rw [h, g]; rfl
    · exact absurd (gn p hp) (by simp [ha])
    · exact absurd (hn q hq) (by simpa using hb)
    · rw [h, g]
  have hc : ∀ (f : Frame) (u : State),
      complete f { u with rxb := r } = { complete f u with rxb := r } := by
    intro f u
    cases h : valid f
    · simp only [complete, h]; rfl
    · simp only [complete, h, if_true]; rw [← hd, ← hk]; rfl
  unfold assemble
  split
  · rfl
  · unfold assembleByte
    cases decodeLength e.byte with
    | fixed n => simp only [startFixed, abortPartial]; split <;> rfl
    | variableLen => simp only [startVariable, abortPartial]; split <;> rfl
    | notOpcode =>
      rcases assembleData_cases e.byte s with
        ⟨ha, h⟩ | ⟨ha, hb, h⟩ | ⟨ha, hb, hb', h⟩ | ⟨ha, hb, h⟩ | ⟨ha, hb, h⟩
      · dsimp only; rw [h]; simp only [assembleData, ha]; rw [← ha]; rfl
      · dsimp only; rw [h]; simp only [assembleData, ha, if_pos hb]; rfl
      · have hl : ¬(e.byte.toNat < 3 ∨ s.params.maxFrame < e.byte.toNat) := by omega
        dsimp only; rw [h]; simp only [assembleData, ha, if_neg hl]
      · dsimp only; rw [h]; simp [assembleData, ha, hb]
      · dsimp only; rw [h]
        simp only [assembleData, ha, List.length_append, List.length_singleton, hb, if_true]
        rw [← ha]
        exact congrArg asmReset (hc _ { s with asmBuf := s.asmBuf ++ [e.byte] })

theorem assembleAll_rxb (es : List RxEntry) (s : State) (r : List RxEntry) :
    assembleAll es { s with rxb := r } = { assembleAll es s with rxb := r } := by
  induction es generalizing s with
  | nil => rfl
  | cons e rest ih =>
    simp only [assembleAll, List.foldl_cons] at ih ⊢
    rw [assemble_rxb, ih]

/-- POLL's drain of RXB is assemble applied to the entries in order, with RXB empty afterwards (R273). -/
theorem drainEntries_eq (es : List RxEntry) (s : State) :
    drainEntries es s = { assembleAll es s with rxb := [] } := by
  induction es generalizing s with
  | nil => rfl
  | cons e rest ih => rw [drainEntries, ih, assemble_rxb, assembleAll_rxb]; rfl

/-! ### Correlator -/

theorem arm_cases (f : Frame) (s : State) :
    (replySpec s.params.replySpec f = none ∧ arm f s = s) ∨
    (∃ ro cid, replySpec s.params.replySpec f = some (ro, cid) ∧
      arm f s =
        { (if s.pending.isSome then bump .replyTimeout s else s) with
          pending := some
            { replyOpc := ro, corrId := cid, sentUs := s.now,
              deadlineUs := s.now + s.params.respTimeoutUs } }) := by
  unfold arm
  cases h : replySpec s.params.replySpec f with
  | none => exact .inl ⟨rfl, rfl⟩
  | some q =>
    obtain ⟨ro, cid⟩ := q
    refine .inr ⟨ro, cid, rfl, ?_⟩
    cases hp : s.pending <;> simp [count, counterOf]

theorem arm_frame (f : Frame) (s : State) :
    arm f s = { s with pending := (arm f s).pending, cnt := (arm f s).cnt } := by
  rcases arm_cases f s with ⟨-, h⟩ | ⟨ro, cid, -, h⟩
  · rw [h]
  · rw [h]; cases s.pending <;> rfl

theorem timeoutCheck_cases (s : State) :
    ((∃ p, s.pending = some p ∧ p.deadlineUs ≤ s.now) ∧
      timeoutCheck s = { bump .replyTimeout (setResult .replyTimeout s) with pending := none }) ∨
    ((∀ p, s.pending = some p → s.now < p.deadlineUs) ∧ timeoutCheck s = s) := by
  unfold timeoutCheck
  cases h : s.pending with
  | none => exact .inr ⟨by simp, rfl⟩
  | some p =>
    by_cases hd : p.deadlineUs ≤ s.now
    · exact .inl ⟨⟨p, rfl, hd⟩, by simp [hd, count, counterOf]⟩
    · exact .inr ⟨by simpa using hd, by simp [hd]⟩

theorem timeoutCheck_frame (s : State) :
    timeoutCheck s =
      { s with
        pending := (timeoutCheck s).pending
        resultCode := (timeoutCheck s).resultCode
        resultSeq := (timeoutCheck s).resultSeq
        cnt := (timeoutCheck s).cnt } := by
  rcases timeoutCheck_cases s with ⟨-, h⟩ | ⟨-, h⟩
  · rw [h]; rfl
  · rw [h]

/-! ### Carrier check -/

theorem carrierCheck_cases (s : State) :
    ((s.carrierSeen = true ∨ s.clDeadline = none) ∧
      carrierCheck s =
        { s with carrierSeen := false, clDeadline := some (s.now + s.params.carrierLossUs) }) ∨
    (s.carrierSeen = false ∧ (∃ d, s.clDeadline = some d ∧ d ≤ s.now) ∧
      carrierCheck s =
        { bump .carrierLoss s with
          clNotify := true, clDeadline := some (s.now + s.params.carrierLossUs) }) ∨
    (s.carrierSeen = false ∧ (∃ d, s.clDeadline = some d ∧ s.now < d) ∧ carrierCheck s = s) := by
  unfold carrierCheck
  split
  · rename_i d hc hd
    by_cases h : d ≤ s.now
    · exact .inr (.inl ⟨hc, ⟨d, hd, h⟩, by rw [if_pos h]; rfl⟩)
    · exact .inr (.inr ⟨hc, ⟨d, hd, by omega⟩, by rw [if_neg h]⟩)
  · rename_i hn
    refine .inl ⟨?_, rfl⟩
    cases hc : s.carrierSeen
    · cases hd : s.clDeadline with
      | none => exact .inr rfl
      | some d => exact absurd hd (hn d hc)
    · exact .inl rfl

theorem carrierCheck_frame (s : State) :
    carrierCheck s =
      { s with
        carrierSeen := (carrierCheck s).carrierSeen
        clDeadline := (carrierCheck s).clDeadline
        clNotify := (carrierCheck s).clNotify
        cnt := (carrierCheck s).cnt } := by
  rcases carrierCheck_cases s with ⟨-, h⟩ | ⟨-, -, h⟩ | ⟨-, -, h⟩
  · rw [h]
  · rw [h]; rfl
  · rw [h]

/-! ### Transmit queue -/

theorem drainNext_cases (s : State) :
    (∃ slot rest, s.inflight = none ∧ s.txq = slot :: rest ∧ avail s = .netAvailable ∧
      drainNext s = { s with txq := rest, inflight := some slot, txb := s.txb ++ slot.frame }) ∨
    ((s.inflight ≠ none ∨ s.txq = [] ∨ avail s ≠ .netAvailable) ∧ drainNext s = s) := by
  unfold drainNext
  cases hi : s.inflight with
  | some slot => exact .inr ⟨by simp, rfl⟩
  | none =>
    cases hq : s.txq with
    | nil => exact .inr ⟨by simp, rfl⟩
    | cons slot rest =>
      by_cases ha : avail s = .netAvailable
      · exact .inl ⟨slot, rest, rfl, rfl, ha, by simp [ha]⟩
      · exact .inr ⟨by simp [ha], by simp [ha]⟩

theorem drainNext_frame (s : State) :
    drainNext s =
      { s with
        txq := (drainNext s).txq
        inflight := (drainNext s).inflight
        txb := (drainNext s).txb } := by
  rcases drainNext_cases s with ⟨_, _, -, -, -, h⟩ | ⟨-, h⟩ <;> rw [h]

theorem handleDone_frame (s : State) :
    handleDone s =
      { s with
        inflight := none
        txOutcome := .none
        pending := (handleDone s).pending
        resultCode := .sent
        resultSeq := s.resultSeq + 0x01#8
        cnt := (handleDone s).cnt } := by
  unfold handleDone
  cases h : s.inflight with
  | none => rfl
  | some slot => dsimp only; rw [arm_frame]; rfl

theorem handleCollided_cases (s : State) :
    (s.inflight = none ∧ handleCollided s = { s with inflight := none, txOutcome := .none }) ∨
    (∃ slot, s.inflight = some slot ∧ s.params.maxRetry < (collidedSlot slot).attempts.toNat ∧
      handleCollided s =
        setResult .collidedDropped (bump .dropped { s with inflight := none, txOutcome := .none })) ∨
    (∃ slot, s.inflight = some slot ∧ (collidedSlot slot).attempts.toNat ≤ s.params.maxRetry ∧
      handleCollided s =
        setResult .collidedRetrying
          { s with inflight := none, txOutcome := .none, txq := s.txq ++ [collidedSlot slot] }) := by
  unfold handleCollided
  cases h : s.inflight with
  | none => exact .inl ⟨rfl, rfl⟩
  | some slot =>
    by_cases hr : s.params.maxRetry < (collidedSlot slot).attempts.toNat
    · exact .inr (.inl ⟨slot, rfl, hr, by simp only [hr, if_true]; rfl⟩)
    · exact .inr (.inr ⟨slot, rfl, by omega, by simp only [hr, if_false]; rfl⟩)

theorem handleCollided_frame (s : State) :
    handleCollided s =
      { s with
        txq := (handleCollided s).txq
        inflight := none
        txOutcome := .none
        resultCode := (handleCollided s).resultCode
        resultSeq := (handleCollided s).resultSeq
        cnt := (handleCollided s).cnt } := by
  rcases handleCollided_cases s with ⟨-, h⟩ | ⟨_, -, -, h⟩ | ⟨_, -, -, h⟩ <;> rw [h] <;> rfl

theorem handleOutcome_frame (s : State) :
    handleOutcome s =
      { s with
        txq := (handleOutcome s).txq
        inflight := (handleOutcome s).inflight
        txOutcome := .none
        pending := (handleOutcome s).pending
        resultCode := (handleOutcome s).resultCode
        resultSeq := (handleOutcome s).resultSeq
        cnt := (handleOutcome s).cnt } := by
  unfold handleOutcome
  cases h : s.txOutcome with
  | none => dsimp only; rw [← h]
  | done => dsimp only; rw [handleDone_frame]
  | collided => dsimp only; rw [handleCollided_frame]

/-- POLL's step 2 leaves what `OutcomeHandled` says (R272). -/
theorem handleOutcome_of_outcomeHandled {s w : State} (h : OutcomeHandled s w) : handleOutcome s = w := by
  cases h with
  | nothing ho => simp [handleOutcome, ho]
  | sent slot ho hi hr => simp only [handleOutcome, ho, handleDone, hi, arm]; simp [hr, setResult, bump]; rfl
  | armed slot ro cid ho hi hr =>
    simp only [handleOutcome, ho, handleDone, hi, arm]
    cases s.pending <;> simp [hr, setResult, bump, count, counterOf] <;> rfl
  | requeued slot again ho hi hm ha he =>
    have hc : collidedSlot slot = again := by
      rw [he, collidedSlot]; congr 1
      apply BitVec.eq_of_toNat_eq; have := again.attempts.isLt; rw [ha, BitVec.toNat_add]; simp; omega
    have hn : ¬ s.params.maxRetry < again.attempts.toNat := by omega
    simp only [handleOutcome, ho, handleCollided, hi, hc, if_neg hn]
    rfl
  | dropped slot ho hi hl hm =>
    have ha : (collidedSlot slot).attempts.toNat = slot.attempts.toNat + 1 := by
      rw [collidedSlot, BitVec.toNat_add]; simp; omega
    simp only [handleOutcome, ho, handleCollided, hi, ha, if_pos hm]
    rfl

theorem enqueue_cases (body : Frame) (prio : Bool) (s : State) :
    (wellFormedBody s.params.maxFrame body = false ∧ enqueue body prio s = respond [0x03#8] s) ∨
    (wellFormedBody s.params.maxFrame body = true ∧ s.params.txqCap ≤ occupancy s ∧
      enqueue body prio s = respond [0x02#8] s) ∨
    (wellFormedBody s.params.maxFrame body = true ∧ occupancy s < s.params.txqCap ∧
      enqueue body prio s =
        respond [0x01#8]
          { s with
            txq := s.txq ++
              [{ frame := encodeFrame body, prio := prio, enqUs := s.now, attempts := 0x00#8,
                 lastFail := .none }] }) := by
  unfold enqueue
  cases hw : wellFormedBody s.params.maxFrame body
  · exact .inl ⟨rfl, rfl⟩
  · by_cases ho : s.params.txqCap ≤ occupancy s
    · exact .inr (.inl ⟨rfl, ho, by simp only [ho]; rfl⟩)
    · exact .inr (.inr ⟨rfl, by omega, by simp [ho]; rfl⟩)

/-! ### TICK -/

theorem endCollision_frame (s : State) :
    endCollision s =
      { s with lineState := if s.lineState = .collisionDetected then .idle else s.lineState } := by
  unfold endCollision; split <;> rfl

theorem frameStart_cases (av : Availability) (s : State) :
    (∃ b rest, s.txBitpos = none ∧ s.txb = b :: rest ∧ av = .netAvailable ∧
      frameStart av s =
        { s with txByte := b, txb := rest, txBitpos := some .start, lineState := .transmitting }) ∨
    ((s.txBitpos ≠ none ∨ s.txb = [] ∨ av ≠ .netAvailable) ∧ frameStart av s = s) := by
  unfold frameStart
  cases hp : s.txBitpos with
  | some p => exact .inr ⟨by simp, rfl⟩
  | none =>
    cases hb : s.txb with
    | nil => exact .inr ⟨by simp, rfl⟩
    | cons b rest =>
      by_cases ha : av = .netAvailable
      · exact .inl ⟨b, rest, rfl, rfl, ha, by simp [ha]⟩
      · exact .inr ⟨by simp [ha], by simp [ha]⟩

theorem txAdvance_cases (p : TxBit) (s : State) :
    (∃ q, p ≠ .stop ∧ txBitNumber q = txBitNumber p + 1 ∧
      txAdvance p s = { s with txBitpos := some q }) ∨
    (∃ b rest, p = .stop ∧ s.txb = b :: rest ∧
      txAdvance p s = { s with txByte := b, txb := rest, txBitpos := some .start }) ∨
    (p = .stop ∧ s.txb = [] ∧ txAdvance p s = frameDone s) := by
  cases p with
  | start => exact .inl ⟨.data 0, by simp, rfl, rfl⟩
  | data k =>
    by_cases h : k.val + 1 < 8
    · exact .inl ⟨.data ⟨k.val + 1, h⟩, by simp, by simp [txBitNumber]; omega, by simp [txAdvance, h]⟩
    · exact .inl ⟨.stop, by simp, by simp [txBitNumber]; omega, by simp [txAdvance, h]⟩
  | stop =>
    cases hb : s.txb with
    | nil => exact .inr (.inr ⟨rfl, rfl, by simp [txAdvance, hb]⟩)
    | cons b rest => exact .inr (.inl ⟨b, rest, rfl, rfl, by simp [txAdvance, hb]⟩)

theorem transmit_cases (p : TxBit) (l : Level) (s : State) :
    (l = txLevel s.txByte p ∧
      transmit p l s = txAdvance p { s with drive := xor (txLevel s.txByte p) s.cfgInv }) ∨
    (l ≠ txLevel s.txByte p ∧
      transmit p l s = collide { s with drive := xor (txLevel s.txByte p) s.cfgInv }) := by
  unfold transmit
  by_cases h : l = txLevel s.txByte p
  · exact .inl ⟨h, by simp [h]⟩
  · exact .inr ⟨h, by simp [h]⟩

/-- What the transmit branch can touch (R144, R145). -/
theorem transmit_frame (p : TxBit) (l : Level) (s : State) :
    transmit p l s =
      { s with
        drive := xor (txLevel s.txByte p) s.cfgInv
        lineState := (transmit p l s).lineState
        txBitpos := (transmit p l s).txBitpos
        txByte := (transmit p l s).txByte
        txb := (transmit p l s).txb
        txOutcome := (transmit p l s).txOutcome
        lastEvent := (transmit p l s).lastEvent
        backoffR := (transmit p l s).backoffR
        draws := (transmit p l s).draws
        cnt := (transmit p l s).cnt } := by
  rcases transmit_cases p l s with ⟨-, h⟩ | ⟨-, h⟩ <;> rw [h]
  · rcases txAdvance_cases p { s with drive := xor (txLevel s.txByte p) s.cfgInv } with
      ⟨_, -, -, h⟩ | ⟨_, _, -, -, h⟩ | ⟨-, -, h⟩
    · rw [h]
    · rw [h]
    · rw [h]; rfl
  · rfl

theorem receive_cases (l : Level) (s : State) :
    (s.rxBitpos = none ∧ s.prevL = true ∧ l = false ∧
      receive l s =
        { s with drive := !s.cfgInv, rxBitpos := some (.data 0), rxShift := 0x00#8 }) ∨
    (s.rxBitpos = none ∧ (s.prevL = false ∨ l = true) ∧ receive l s = { s with drive := !s.cfgInv }) ∨
    (∃ k, s.rxBitpos = some (.data k) ∧
      receive l s =
        { s with
          drive := !s.cfgInv, rxShift := setBit s.rxShift k.val l, rxBitpos := some (rxNext k) }) ∨
    (s.rxBitpos = some .stop ∧
      receive l s =
        { pushRxb { err := !l, byte := s.rxShift } { s with drive := !s.cfgInv } with
          rxBitpos := none }) := by
  unfold receive
  cases hr : s.rxBitpos with
  | none =>
    by_cases h : s.prevL = true ∧ l = false
    · exact .inl ⟨rfl, h.1, h.2, by simp [h]⟩
    · refine .inr (.inl ⟨rfl, ?_, ?_⟩)
      · cases hp : s.prevL <;> cases hl : l <;> simp_all
      · simp [h]
  | some q =>
    cases q with
    | data k => exact .inr (.inr (.inl ⟨k, rfl, by simp⟩))
    | stop => exact .inr (.inr (.inr ⟨rfl, by simp⟩))

/-- What the receive branch can touch (R146–R149). -/
theorem receive_frame (l : Level) (s : State) :
    receive l s =
      { s with
        drive := !s.cfgInv
        rxBitpos := (receive l s).rxBitpos
        rxShift := (receive l s).rxShift
        rxb := (receive l s).rxb
        cnt := (receive l s).cnt } := by
  rcases receive_cases l s with ⟨-, -, -, h⟩ | ⟨-, -, h⟩ | ⟨_, -, h⟩ | ⟨-, h⟩ <;> rw [h]
  rcases pushRxb_cases { err := !l, byte := s.rxShift } { s with drive := !s.cfgInv } with
    ⟨-, h⟩ | ⟨-, h⟩
  · rw [h]
  · rw [h]; rfl

theorem endTick_frame (l : Level) (active : Bool) (s : State) :
    endTick l active s =
      { s with
        prevL := l
        idleCount := if active then 0#16 else satSucc s.idleCount
        carrierSeen := active || s.carrierSeen } := by
  unfold endTick; cases active <;> rfl

/-- The two branches of a tick (R142), after the latch, the one-tick collision state and the frame-start
check. -/
theorem tickStep_cases (x : Level) (s : State) :
    (∃ p, (frameStart (avail (latchConfig s)) (endCollision (latchConfig s))).txBitpos = some p ∧
      tickStep x s =
        endTick (xor x s.cfgInvSh) true
          (transmit p (xor x s.cfgInvSh)
            (frameStart (avail (latchConfig s)) (endCollision (latchConfig s))))) ∨
    (s.txBitpos = none ∧
      frameStart (avail (latchConfig s)) (endCollision (latchConfig s)) = endCollision (latchConfig s) ∧
      tickStep x s =
        endTick (xor x s.cfgInvSh) (receiveActive (xor x s.cfgInvSh) (endCollision (latchConfig s)))
          (receive (xor x s.cfgInvSh) (endCollision (latchConfig s)))) := by
  have hinv : (latchConfig s).cfgInv = s.cfgInvSh := rfl
  cases h : (frameStart (avail (latchConfig s)) (endCollision (latchConfig s))).txBitpos with
  | some p => exact .inl ⟨p, rfl, by simp only [tickStep, tickBranch, h, hinv]⟩
  | none =>
    have hs : frameStart (avail (latchConfig s)) (endCollision (latchConfig s))
        = endCollision (latchConfig s) := by
      rcases frameStart_cases (avail (latchConfig s)) (endCollision (latchConfig s)) with
        ⟨_, _, -, -, -, h'⟩ | ⟨-, h'⟩
      · rw [h'] at h; simp at h
      · exact h'
    refine .inr ⟨?_, hs, ?_⟩
    · rw [hs, endCollision_frame] at h; exact h
    · simp only [tickStep, tickBranch, h, hinv]; rw [hs]

/-- Avail() reads the same before and after the configuration latch (R143). -/
@[simp] theorem avail_latchConfig (s : State) : avail (latchConfig s) = avail s := rfl

/-- A TICK in the middle of a character takes the transmit branch with the bit position as it stood. -/
theorem exec_tick_transmit (s : State) (p : TxBit) (x : Level)
    (hl : s.lineState = .transmitting) (hp : s.txBitpos = some p) :
    exec (.tick x) s =
      .next (endTick (xor x s.cfgInvSh) true (transmit p (xor x s.cfgInvSh) (latchConfig s))) := by
  simp only [exec, execTick, tickStep]
  have : frameStart (avail (latchConfig s)) (endCollision (latchConfig s)) = latchConfig s := by
    simp [endCollision, hl, frameStart, hp]
  rw [this]; simp [tickBranch, hp]

/-- A TICK with nothing to send, or with the bus not available, takes the receive branch. -/
theorem exec_tick_receive (s : State) (x : Level)
    (hp : s.txBitpos = none) (hb : s.txb = [] ∨ avail s ≠ .netAvailable) :
    exec (.tick x) s =
      .next (endTick (xor x s.cfgInvSh)
        (receiveActive (xor x s.cfgInvSh) (endCollision (latchConfig s)))
        (receive (xor x s.cfgInvSh) (endCollision (latchConfig s)))) := by
  simp only [exec, execTick, tickStep]
  have : frameStart (avail (latchConfig s)) (endCollision (latchConfig s))
      = endCollision (latchConfig s) := by
    rcases frameStart_cases (avail (latchConfig s)) (endCollision (latchConfig s)) with
      ⟨_, _, -, q, r, -⟩ | ⟨-, g⟩
    · simp only [endCollision_frame, latchConfig_txb] at q
      rw [avail_latchConfig] at r
      rcases hb with h | h
      · simp [h] at q
      · exact absurd r h
    · exact g
  rw [this]; simp [tickBranch, endCollision_frame, hp]

end Sys2Proof.Machine
end

