-- ==== Sys2Proof/Laws/PerInstr.lean ====
section
/-! SUPPORT. The family `TableRow`: every operation is written in the bits its row of
`spec/opcode_table.json` fixes, on the port its format names (a wire row on none). One lemma per constructor. -/

namespace Sys2Proof.Laws.TableRow

/-- The port, the mask and the match of an operation's row of the opcode table. -/
def row : Instr → Option Port × Byte × Byte
  | .opcLen2 _ => (none, 0xE0#8, 0x80#8)
  | .opcLen4 _ => (none, 0xE0#8, 0xA0#8)
  | .opcLen6 _ => (none, 0xE0#8, 0xC0#8)
  | .opcLenVar _ => (none, 0xE0#8, 0xE0#8)
  | .data _ => (none, 0x80#8, 0x00#8)
  | .submit _ _ => (some .host, 0xFF#8, 0x01#8)
  | .flush => (some .host, 0xFF#8, 0x02#8)
  | .config _ => (some .host, 0xFF#8, 0x03#8)
  | .readResult => (some .host, 0xFF#8, 0x04#8)
  | .readStatus => (some .host, 0xFF#8, 0x05#8)
  | .setSink _ => (some .host, 0xFF#8, 0x06#8)
  | .readCounter _ => (some .host, 0xFF#8, 0x07#8)
  | .reset => (some .host, 0xFF#8, 0x08#8)
  | .tick _ => (some .timer, 0xFF#8, 0x10#8)
  | .poll => (some .polling, 0xFF#8, 0x11#8)

/-- The first byte of an operation is its row's match under its row's mask, on its row's port. -/
def Statement (i : Instr) : Prop :=
  portOf i = (row i).1 ∧ codeOf i &&& (row i).2.1 = (row i).2.2

theorem opcLen2 (m : BitVec 5) : Statement (.opcLen2 m) := by
  refine ⟨rfl, ?_⟩
  revert m; decide

theorem opcLen4 (m : BitVec 5) : Statement (.opcLen4 m) := by
  refine ⟨rfl, ?_⟩
  revert m; decide

theorem opcLen6 (m : BitVec 5) : Statement (.opcLen6 m) := by
  refine ⟨rfl, ?_⟩
  revert m; decide

theorem opcLenVar (m : BitVec 5) : Statement (.opcLenVar m) := by
  refine ⟨rfl, ?_⟩
  revert m; decide

theorem data (v : BitVec 7) : Statement (.data v) := by
  refine ⟨rfl, ?_⟩
  revert v; decide

theorem submit (flags : Byte) (body : Frame) : Statement (.submit flags body) := ⟨rfl, by simp [row, codeOf]⟩
theorem flush : Statement .flush := ⟨rfl, by simp [row, codeOf]⟩
theorem config (cfg : Byte) : Statement (.config cfg) := ⟨rfl, by simp [row, codeOf]⟩
theorem readResult : Statement .readResult := ⟨rfl, by simp [row, codeOf]⟩
theorem readStatus : Statement .readStatus := ⟨rfl, by simp [row, codeOf]⟩
theorem setSink (en : Byte) : Statement (.setSink en) := ⟨rfl, by simp [row, codeOf]⟩
theorem readCounter (idx : Byte) : Statement (.readCounter idx) := ⟨rfl, by simp [row, codeOf]⟩
theorem reset : Statement .reset := ⟨rfl, by simp [row, codeOf]⟩
theorem tick (s : Level) : Statement (.tick s) := ⟨rfl, by simp [row, codeOf]⟩
theorem poll : Statement .poll := ⟨rfl, by simp [row, codeOf]⟩

end Sys2Proof.Laws.TableRow
end

