-- ==== Sys2Proof/Machine/Program.lean ====
section
/-! DEFINITION. The lines of the spec's test programs (`30_encoding.md` R116) and the pseudo-operations
(R117), as the records they stand for. Nothing here is part of the engine: it is how a program's records
come to stand in the operation stream. -/

namespace Sys2Proof.Machine

/-- One line of a program (R116, R117). The text's numerals are the file's, not the model's. -/
inductive ProgLine where
  /-- `@t`. -/
  | clock (t : Nat)
  /-- An operation written by its mnemonic: SUBMIT, SUBMIT.P, FLUSH, CONFIG, …, TICK, POLL. -/
  | op (i : Instr)
  /-- `HOST c o1 … om`: a raw host record. -/
  | hostRaw (code : Byte) (operands : List Byte)
  /-- `TICKS n s`. -/
  | ticks (n : Nat) (s : Level)
  /-- `IDLE n`. -/
  | idle (n : Nat)
  /-- `SENDBYTE b`. -/
  | sendByte (b : Byte)
  /-- `SENDFRAME b0 … bk`. -/
  | sendFrame (bs : Frame)
  /-- `ECHO n`. -/
  | echo (n : Nat)
  /-- `ECHO_FLIP n k`. -/
  | echoFlip (n k : Nat)
  deriving DecidableEq, Repr

/-- The physical level this node's engine drives during the next tick (R117, R149): it does not depend on
the sample. -/
def drivenLevel (s : State) : Level := (tickStep false s).drive

/-- The samples of `ECHO n`, and of `ECHO_FLIP n k` where `flip` is `some k` (R117). -/
def echoSamples (n : Nat) (flip : Option Nat) (s : State) : List Level :=
  match n with
  | 0 => []
  | n + 1 =>
    let d := xor (drivenLevel s) (flip == some 0)
    d :: echoSamples n (flip.bind fun k => if k = 0 then none else some (k - 1)) (tickStep d s)

/-- The samples a tick pseudo-operation expands to, from the state it starts in (R117). -/
def samplesOf (s : State) : ProgLine → List Level
  | .ticks n l => List.replicate n l
  | .idle n => List.replicate n (xor true s.cfgInvSh)
  | .sendByte b => (characterBits b).map (xor · s.cfgInvSh)
  | .sendFrame bs => (bs.flatMap characterBits).map (xor · s.cfgInvSh)
  | .echo n => echoSamples n none s
  | .echoFlip n k => echoSamples n (some k) s
  | .clock _ | .op _ | .hostRaw _ _ => []

/-- The records of a line (R116, R117), issued at clock value `now`. -/
def recordsOf (now : Nat) (s : State) : ProgLine → List OpRecord
  | .clock _ => []
  | .op i => (recordOf i now).toList
  | .hostRaw c os => [{ port := .host, code := c, operands := os, now := now }]
  | l@(.ticks _ _) | l@(.idle _) | l@(.sendByte _) | l@(.sendFrame _) | l@(.echo _) | l@(.echoFlip _ _) =>
    (samplesOf s l).filterMap fun d => recordOf (.tick d) now

/-- One step for each record of the stream, in order. -/
def runSteps : Nat → State → Host.Outcome State Fault Refusal
  | 0, s => .next s
  | n + 1, s => match step s with
    | .next t => runSteps n t
    | .fault r => .fault r
    | .refused r => .refused r

/-- A program, line by line, from clock value `now` (R116: it starts at `@0`). -/
def runProgram (now : Nat) (s : State) : List ProgLine → Host.Outcome State Fault Refusal
  | [] => .next s
  | .clock t :: rest => runProgram t s rest
  | l :: rest =>
    let rs := recordsOf now s l
    match runSteps rs.length { s with input := rs } with
    | .next t => runProgram now t rest
    | .fault r => .fault r
    | .refused r => .refused r

end Sys2Proof.Machine
end

