-- ==== Sys2Proof/Machine/Bus.lean ====
section
/-! DEFINITION. Several engines on one line (`60_exceptions.md` R320, R322). Nothing here is part of an
engine: the resolution of the driven levels is a parameter of the bus (LINE_RESOLVE, D48), and the engines
share no state. -/

namespace Sys2Proof.Machine

/-- One bit interval of a bus whose nodes tick together: each node samples the level that `resolve` gives
its index from the levels all nodes drive in that interval (R320, R156). A single node with
`resolve := fun ds _ => ds.headD true` is the environment of ECHO (R117). How the backoff draws of the nodes
relate follows from their drawSource (DESIGN CHOICE, log 17). -/
def busTick (resolve : List Level → Nat → Level) (nodes : List State) : List State :=
  let driven := nodes.map drivenLevel
  (nodes.zip (List.range nodes.length)).map fun (s, k) => tickStep (resolve driven k) s

end Sys2Proof.Machine
end

