-- ==== Sys2Proof/Tests/Slice0.lean ====
section
/-! SUPPORT. Small tests by `decide`: the WellFormed smoke, words written out from the spec's encodings,
one-step vectors of `95_test_vectors.md` (each names its vector), and for each obligation with hypotheses a
state that meets them, clause by clause at the boundary values. -/

namespace Sys2Proof.Machine

/-- An engine with P_TEST, right after reset. -/
def r0 : State := State.resetOf Config.pTest

/-- The state after one operation. -/
def after (i : Instr) (s : State) : State :=
  match exec i s with
  | .next t => t
  | .fault _ => s
  | .refused _ => s

/-- The slot of a body, as SUBMIT at clock 0 makes it. -/
def slotOf (body : Frame) : Slot :=
  { frame := encodeFrame body, prio := false, enqUs := 0, attempts := 0x00#8, lastFail := .none }

/-- V-U11's setup: one frame drained into TXB, the bus available. -/
def readyToSend : State :=
  { r0 with
    prevL := true, idleCount := 5#16, inflight := some (slotOf [0xB2#8, 0x00#8, 0x00#8])
    txb := [0xB2#8, 0x00#8, 0x00#8, 0x4D#8] }

/-- The same frame under way, its byte 0x4D at bit position `p` with nothing left in TXB. -/
def sendingLast (p : TxBit) : State :=
  { readyToSend with lineState := .transmitting, txBitpos := some p, txByte := 0x4D#8, txb := [] }

/-- The receive path in the middle of a character. -/
def receivingAt (p : RxBit) : State := { r0 with rxBitpos := some p, rxShift := 0x25#8, prevL := true }

/-- The assembler with a frame in progress. -/
def assembling (st : AsmState) (buf : Frame) (expect : Byte) : State :=
  { r0 with sinkEn := true, asmState := st, asmBuf := buf, asmExpect := expect }

/-- Only the last byte of B2 00 00 4D is missing. -/
def almostComplete : State := assembling .waitPayload [0xB2#8, 0x00#8, 0x00#8] 0x04#8

/-- A record of the operation stream at clock 0. -/
def record (port : Port) (code : Byte) (operands : List Byte) : OpRecord :=
  { port := port, code := code, operands := operands, now := 0 }

/-! ### WellFormed: each check refuses an ill-formed term (R114) -/

theorem test_wf_accepts :
    Instr.wellFormed Config.pTest (.submit 0x01#8 (List.replicate 15 0x00#8)) = true ∧
    Instr.wellFormed Config.pTest (.config 0x03#8) = true ∧
    Instr.wellFormed Config.pTest (.setSink 0x01#8) = true ∧
    Instr.wellFormed Config.pTest (.readCounter 0x08#8) = true := by decide

theorem test_wf_submit_flags : Instr.wellFormed Config.pTest (.submit 0x02#8 [0x81#8]) = false := by decide
theorem test_wf_submit_empty : Instr.wellFormed Config.pTest (.submit 0x00#8 []) = false := by decide
theorem test_wf_submit_long :
    Instr.wellFormed Config.pTest (.submit 0x00#8 (List.replicate 16 0x00#8)) = false := by decide
theorem test_wf_config_reserved : Instr.wellFormed Config.pTest (.config 0x04#8) = false := by decide
theorem test_wf_sink_range : Instr.wellFormed Config.pTest (.setSink 0x02#8) = false := by decide
theorem test_wf_counter_range : Instr.wellFormed Config.pTest (.readCounter 0x09#8) = false := by decide
/-- A body of 255 bytes has a record, one of 256 has none (R111). -/
theorem test_encodable_submit :
    ∀ n, Instr.encodable (.submit 0x00#8 (List.replicate n 0x00#8)) = decide (n ≤ 255) := by
  intro n; simp [Instr.encodable]

/-! ### Decode: words written out from R102, R103, R110 and R111 -/

theorem test_decode_opcLen2 : decodeTableWord 8 0b10000001 = some (.opcLen2 0b00001#5) := by decide
theorem test_decode_opcLen4 : decodeTableWord 8 0b10110010 = some (.opcLen4 0b10010#5) := by decide
theorem test_decode_opcLen6 : decodeTableWord 8 0b11000000 = some (.opcLen6 0b00000#5) := by decide
theorem test_decode_opcLenVar : decodeTableWord 8 0b11100111 = some (.opcLenVar 0b00111#5) := by decide
theorem test_decode_data : decodeTableWord 8 0b01001101 = some (.data 0b1001101#7) := by decide
theorem test_decode_submit :
    decode (record .host 0x01#8 [0x01#8, 0x03#8, 0xB2#8, 0x00#8, 0x00#8]) =
      .ok (.submit 0x01#8 [0xB2#8, 0x00#8, 0x00#8]) := rfl
theorem test_decode_flush : decodeTableWord 8 0x02 = some .flush := by decide
theorem test_decode_config : decodeTableWord 16 0b0000001000000011 = some (.config 0x02#8) := by decide
theorem test_decode_readResult : decodeTableWord 8 0x04 = some .readResult := by decide
theorem test_decode_readStatus : decodeTableWord 8 0x05 = some .readStatus := by decide
theorem test_decode_setSink : decodeTableWord 16 0b0000000100000110 = some (.setSink 0x01#8) := by decide
theorem test_decode_readCounter : decodeTableWord 16 0x0707 = some (.readCounter 0x07#8) := by decide
theorem test_decode_reset : decodeTableWord 8 0x08 = some .reset := by decide
theorem test_decode_tick :
    decodeTableWord 16 0x0110 = some (.tick true) ∧ decodeTableWord 16 0x0010 = some (.tick false) := by
  decide
theorem test_decode_poll : decodeTableWord 8 0x11 = some .poll := by decide

/-- V-H13 to V-H16, V-H20, V-H25, V-H26: records that are no operation, rejected by name. -/
theorem test_decode_rejects :
    decode (record .host 0x00#8 []) = .error (.unknownCode 0x00#8) ∧
    decode (record .host 0x09#8 []) = .error (.unknownCode 0x09#8) ∧
    decode (record .host 0x10#8 [0x01#8]) = .error (.unknownCode 0x10#8) ∧
    decode (record .host 0x11#8 []) = .error (.unknownCode 0x11#8) ∧
    decode (record .host 0x01#8 [0x00#8, 0x03#8, 0xB2#8, 0x00#8]) = .error (.operandCount 0x01#8) ∧
    decode (record .host 0x02#8 [0x00#8]) = .error (.operandCount 0x02#8) ∧
    decode (record .host 0x03#8 []) = .error (.operandCount 0x03#8) ∧
    decode (record .timer 0x10#8 [0x02#8]) = .error .notATick ∧
    decode (record .polling 0x11#8 [0x00#8]) = .error .notAPoll := by
  refine ⟨rfl, rfl, rfl, rfl, rfl, rfl, rfl, rfl, rfl⟩

/-- After reset, the next step runs the table word: a wire byte inside POLL, any other as its record (log 6). -/
theorem test_withFetchWord :
    (∃ t, step (State.reset.withFetchWord 8 0xB2) = .next t ∧ t.asmState = .waitPayload) ∧
    ∃ t, step (State.reset.withFetchWord 8 0x02) = .next t ∧ t.response = [0x00#8] :=
  ⟨⟨_, rfl, rfl⟩, ⟨_, rfl, rfl⟩⟩

/-! ### One step, from the spec's vectors -/

/-- V-A9's first byte. -/
theorem test_opcLen2 :
    (after (.opcLen2 0b00001#5) r0).asmBuf = [0x81#8] ∧ (after (.opcLen2 0b00001#5) r0).asmExpect = 0x02#8 := by
  decide

/-- V-A3's third byte: an opcode in the middle of a frame counts E4 (R192). -/
theorem test_opcLen2_aborts :
    (after (.opcLen2 0b00001#5) (assembling .waitPayload [0xB2#8, 0x00#8] 0x04#8)).cnt.framingErr = 1#16 := by
  decide

/-- V-A1's first byte. -/
theorem test_opcLen4 :
    (after (.opcLen4 0b10010#5) r0).asmBuf = [0xB2#8] ∧ (after (.opcLen4 0b10010#5) r0).asmExpect = 0x04#8 := by
  decide

/-- V-A14's first byte. -/
theorem test_opcLen6 :
    (after (.opcLen6 0b00000#5) r0).asmBuf = [0xC0#8] ∧ (after (.opcLen6 0b00000#5) r0).asmExpect = 0x06#8 := by
  decide

/-- V-A11's first byte. -/
theorem test_opcLenVar :
    (after (.opcLenVar 0b00111#5) r0).asmState = .waitLen ∧ (after (.opcLenVar 0b00111#5) r0).asmExpect = 0x00#8 := by
  decide

/-- V-A1's last byte: the frame is emitted and counted. -/
theorem test_data_completes :
    (after (.data 0x4D#7) almostComplete).dispatch = [[0xB2#8, 0x00#8, 0x00#8, 0x4D#8]] ∧
    (after (.data 0x4D#7) almostComplete).cnt.rxFrames = 1#16 ∧
    (after (.data 0x4D#7) almostComplete).asmState = .waitOpc := by decide

/-- V-A10's last byte: the flipped check byte is counted and nothing is emitted. -/
theorem test_data_bad_check :
    (after (.data 0x4C#7) almostComplete).dispatch = [] ∧
    (after (.data 0x4C#7) almostComplete).cnt.cksumErr = 1#16 := by decide

/-- V-Q1. -/
theorem test_submit_queues :
    (after (.submit 0x00#8 [0xB2#8, 0x00#8, 0x00#8]) r0).response = [0x01#8] ∧
    (after (.submit 0x00#8 [0xB2#8, 0x00#8, 0x00#8]) r0).txq =
      [{ frame := [0xB2#8, 0x00#8, 0x00#8, 0x4D#8], prio := false, enqUs := 0, attempts := 0x00#8,
         lastFail := .none }] := by decide

/-- V-Q4: the slot in flight counts against the capacity; V-H17: flags bit 1 is ILLEGAL. -/
theorem test_submit_rejects :
    (after (.submit 0x00#8 [0xB2#8, 0x02#8, 0x00#8])
      { readyToSend with txq := [slotOf [0xB2#8, 0x01#8, 0x00#8]] }).response = [0x02#8] ∧
    (after (.submit 0x02#8 [0xB2#8, 0x00#8, 0x00#8]) r0).response = [0x0F#8] := by decide

/-- V-Q6: the frame in flight is untouched. -/
theorem test_flush :
    (after .flush { readyToSend with txq := [slotOf [0x81#8]] }).txq = [] ∧
    (after .flush readyToSend).txb = readyToSend.txb := by decide

/-- V-H4: only the shadow is written; V-H22: a reserved bit is ILLEGAL. -/
theorem test_config :
    (after (.config 0x01#8) r0).cfgInvSh = true ∧ (after (.config 0x01#8) r0).cfgInv = false ∧
    (after (.config 0x80#8) r0).response = [0x0F#8] := by decide

/-- V-H2, and R284's example after one send. -/
theorem test_readResult :
    (after .readResult r0).response = [0x00#8, 0x00#8, 0x00#8] ∧
    (after .readResult { r0 with resultCode := .sent, resultSeq := 0x01#8 }).response =
      [0x00#8, 0x01#8, 0x01#8] := by decide

/-- V-H6's last record (AVAIL 1 at idle 2); the carrier-loss bit is read, then cleared (R285). -/
theorem test_readStatus :
    (after .readStatus { r0 with idleCount := 2#16, speedSel := true, cfgSpeedSh := true }).response =
      [0x00#8, 0x04#8, 0x00#8, 0x0A#8] ∧
    (after .readStatus { r0 with clNotify := true }).response = [0x00#8, 0x10#8, 0x00#8, 0x00#8] ∧
    (after .readStatus { r0 with clNotify := true }).clNotify = false := by decide

/-- V-H7 and V-H23. -/
theorem test_setSink :
    (after (.setSink 0x01#8) r0).sinkEn = true ∧ (after (.setSink 0x02#8) r0).response = [0x0F#8] := by decide

/-- V-H12's first record, and the byte order of R83; V-H24. -/
theorem test_readCounter :
    (after (.readCounter 0x07#8) { r0 with cnt := { r0.cnt with rxFrames := 0x0102#16 } }).response =
      [0x00#8, 0x02#8, 0x01#8] ∧
    (after (.readCounter 0x09#8) r0).response = [0x0F#8] := by decide

/-- V-H11: a RESET in the middle of a frame. -/
theorem test_reset :
    (after .reset (sendingLast (.data 3))).inflight = none ∧ (after .reset (sendingLast (.data 3))).drive = true ∧
    (after .reset (sendingLast (.data 3))).txOutcome = .none := by decide

/-- V-U12: the start bit of a frame, with a foreign start bit in the same tick. -/
theorem test_tick_frame_start :
    (after (.tick false) readyToSend).txBitpos = some (.data 0) ∧
    (after (.tick false) readyToSend).txByte = 0xB2#8 ∧
    (after (.tick false) readyToSend).drive = false := by decide

/-- V-U18 and V-U14's mismatch, on the last stop bit. -/
theorem test_tick_frame_end :
    (after (.tick true) (sendingLast .stop)).txOutcome = .done ∧
    (after (.tick false) (sendingLast .stop)).txOutcome = .collided ∧
    (after (.tick false) (sendingLast .stop)).cnt.collision = 1#16 := by decide

/-- V-Q10. -/
theorem test_poll_drains :
    (after .poll { r0 with txq := [slotOf [0xB2#8, 0x00#8, 0x00#8]], idleCount := 5#16 }).txb =
      [0xB2#8, 0x00#8, 0x00#8, 0x4D#8] ∧
    (after .poll { r0 with txq := [slotOf [0xB2#8, 0x00#8, 0x00#8]], idleCount := 4#16 }).txb = [] := by decide

/-- V-P3: the requeued slot is drained again by the same POLL. -/
theorem test_poll_requeues :
    let s := { readyToSend with
      txb := [], idleCount := 15#16, txOutcome := .collided, lastEvent := .collision }
    (after .poll s).resultCode = .collidedRetrying ∧
    (after .poll s).inflight.map Slot.attempts = some 0x01#8 := by decide

/-- R320 with a line that is space when any node drives space: the first tick of a frame is a start bit for
its sender and a start edge for the other node. -/
theorem test_bus_start_edge :
    (busTick (fun ds _ => ds.all id) [readyToSend, { r0 with prevL := true }]).map
        (fun t => (t.txBitpos, t.rxBitpos)) =
      [(some (.data 0), none), (none, some (.data 0))] := by decide

/-! ### The hypotheses of the obligations can be met -/

theorem test_meets_DecodedRecordIsTheEncodedOne :
    decode (record .timer 0x10#8 [0x01#8]) = .ok (.tick true) := rfl

theorem test_meets_StepRunsTheDecodedOperation :
    let s := { r0 with input := [record .polling 0x11#8 [], record .host 0x02#8 []] }
    s.input = record .polling 0x11#8 [] :: [record .host 0x02#8 []] ∧
    decode (record .polling 0x11#8 []) = .ok .poll := ⟨rfl, rfl⟩

theorem test_meets_PollStepRunsTheWireRows :
    let s := { almostComplete with rxb := goodEntries [0x4D#8], input := [record .polling 0x11#8 []] }
    s.input = record .polling 0x11#8 [] :: [] ∧ decode (record .polling 0x11#8 []) = .ok .poll ∧
    s.rxb = goodEntries [0x4D#8] ∧
    ∃ t, step s = .next t ∧ t.dispatch = [[0xB2#8, 0x00#8, 0x00#8, 0x4D#8]] :=
  ⟨rfl, rfl, rfl, _, rfl, rfl⟩

theorem test_meets_NoRecordNoChange : r0.input = [] := rfl

theorem test_meets_IllegalHostRecordChangesNothing :
    ¬ LegalHostRecord 16 0x09#8 [] ∧ ¬ LegalHostRecord 16 0x00#8 [] ∧
    ¬ LegalHostRecord 16 0x02#8 [0x00#8] ∧ ¬ LegalHostRecord 16 0x03#8 [0x04#8] ∧
    ¬ LegalHostRecord 16 0x06#8 [0x02#8] ∧ ¬ LegalHostRecord 16 0x07#8 [0x09#8] ∧
    ¬ LegalHostRecord 16 0x01#8 [0x02#8, 0x01#8, 0x81#8] ∧ ¬ LegalHostRecord 16 0x01#8 [0x00#8, 0x00#8] := by
  refine ⟨?_, ?_, ?_, ?_, ?_, ?_, ?_, ?_⟩ <;> intro h <;> cases h <;> simp_all

theorem test_meets_LegalHostRecordIsAnswered :
    LegalHostRecord 16 0x01#8 (0x01#8 :: 0x0F#8 :: List.replicate 15 0x00#8) ∧
    LegalHostRecord 16 0x01#8 [0x00#8, 0x01#8, 0x81#8] ∧ LegalHostRecord 16 0x02#8 [] ∧
    LegalHostRecord 16 0x03#8 [0x03#8] ∧ LegalHostRecord 16 0x04#8 [] ∧ LegalHostRecord 16 0x05#8 [] ∧
    LegalHostRecord 16 0x06#8 [0x01#8] ∧ LegalHostRecord 16 0x07#8 [0x08#8] ∧
    LegalHostRecord 16 0x08#8 [] :=
  ⟨.submit _ _ _ (by decide) rfl (by decide) (by decide), .submit _ _ _ (by decide) rfl (by decide) (by decide),
    .flush, .config _ (by decide), .readResult, .readStatus, .setSink _ (by decide),
    .readCounter _ (by decide), .reset⟩

theorem test_meets_CheckByteClosesTheFrame :
    (0xB2#8).getLsbD 7 = true ∧ ∀ b ∈ ([0x00#8, 0x7F#8] : Frame), b.getLsbD 7 = false := by decide

/-- V-C5's shortest and longest bodies. -/
theorem test_meets_FrameRoundTrip :
    wellFormedBody 16 [0x81#8] = true ∧ wellFormedBody 16 [0xE0#8, 0x03#8] = true ∧
    wellFormedBody 16 (0xE0#8 :: 0x10#8 :: List.replicate 13 0x00#8) = true := by decide

theorem test_meets_SingleByteCorruptionIsDetected :
    let f : Frame := [0xB2#8, 0x00#8, 0x00#8, 0x4D#8]
    valid f = true ∧ (f[0]? ≠ none ∧ f[0]? ≠ some 0xB3#8) ∧ (f[3]? ≠ none ∧ f[3]? ≠ some 0x4C#8) ∧
    f[1]? = some 0x00#8 ∧ f[2]? = some 0x00#8 := by decide

theorem test_meets_WellFormedBodySpelledOut : (6 ≤ 6 ∧ 6 ≤ 127) ∧ 6 ≤ 127 ∧ 127 ≤ 127 := by decide

/-- Noise; the length bytes 2, 3, 16 and 17 for MAX_FRAME = 16; a payload byte that does not complete. -/
theorem test_meets_DataByteByAssemblerState :
    let w := assembling .waitLen [0xE7#8] 0x00#8
    r0.asmState = .waitOpc ∧ w.asmState = .waitLen ∧ (0x02#7).toNat < 3 ∧
    w.params.maxFrame < (0x11#7).toNat ∧ 3 ≤ (0x03#7).toNat ∧ (0x10#7).toNat ≤ w.params.maxFrame ∧
    (let p := assembling .waitPayload [0xB2#8] 0x04#8
     p.asmState = .waitPayload ∧ p.asmBuf.length + 1 ≠ p.asmExpect.toNat) := by decide

theorem test_meets_CompletedFrameIsCheckedAndDelivered :
    almostComplete.asmState = .waitPayload ∧
    almostComplete.asmBuf.length + 1 = almostComplete.asmExpect.toNat ∧
    (let f : Frame := almostComplete.asmBuf ++ [0x4D#8]; xorAcc f = 0xFF#8 ∧ 2 ≤ f.length) ∧
    xorAcc (almostComplete.asmBuf ++ [0x4C#8]) ≠ 0xFF#8 := by decide

/-- As V-A13, in the middle of a frame whose last byte it would have been. -/
theorem test_meets_ErrorEntryResetsTheAssembler :
    let s := { almostComplete with rxb := [{ err := true, byte := 0x4D#8 }] }
    s.rxb = [{ err := true, byte := 0x4D#8 }] ∧ (after .poll s).asmState = .waitOpc ∧
    (after .poll s).cnt.framingErr = 1#16 ∧ (after .poll s).cnt.rxFrames = 0#16 := by decide

theorem test_meets_FrameBytesCompleteTheFrame :
    r0.params.maxFrame ≤ 127 ∧ r0.asmState = .waitOpc ∧
    (shapeOK 16 [0x81#8, 0x7E#8] = true ∧ valid [0x81#8, 0x7E#8] = true) ∧
    (shapeOK 16 (0xE0#8 :: 0x10#8 :: List.replicate 14 0x00#8) = true ∧
      valid (0xE0#8 :: 0x10#8 :: List.replicate 14 0x00#8) = false) := by decide

theorem test_meets_TickSendsTheNextBit :
    (sendingLast .start).lineState = .transmitting ∧ (sendingLast .start).txBitpos = some .start ∧
    (sendingLast (.data 7)).txBitpos = some (.data 7) ∧ (sendingLast .stop).txBitpos = some .stop ∧
    (sendingLast .stop).txb = [] ∧ { sendingLast .stop with txb := [0x4D#8] }.txb = 0x4D#8 :: [] := by decide

theorem test_meets_MismatchIsACollision :
    (sendingLast (.data 7)).lineState = .transmitting ∧ (sendingLast (.data 7)).txBitpos = some (.data 7) := by
  decide

theorem test_meets_FrameStartsWhenTheBusIsAvailable :
    readyToSend.txBitpos = none ∧ readyToSend.txb = 0xB2#8 :: [0x00#8, 0x00#8, 0x4D#8] ∧
    avail readyToSend = .netAvailable ∧ avail { readyToSend with idleCount := 4#16 } ≠ .netAvailable := by decide

theorem test_meets_TickReceivesTheNextBit :
    (r0.lineState = .idle ∧ r0.txBitpos = none ∧ r0.txb = [] ∧ r0.rxBitpos = none ∧ r0.prevL = false) ∧
    { r0 with prevL := true }.prevL = true ∧ (receivingAt (.data 7)).rxBitpos = some (.data 7) ∧
    (receivingAt .stop).rxb.length < (receivingAt .stop).params.rxbCap ∧
    (let s := { receivingAt .stop with rxb := goodEntries (List.replicate 8 0x00#8) }
     s.rxBitpos = some .stop ∧ s.params.rxbCap ≤ s.rxb.length) := by decide

theorem test_meets_IdleCounterCountsInactiveTicks :
    (sendingLast .stop).txBitpos ≠ none ∧ (readyToSend.txb ≠ [] ∧ avail readyToSend = .netAvailable) ∧
    (receivingAt .stop).rxBitpos ≠ none ∧ false = r0.cfgInvSh ∧
    (r0.txBitpos = none ∧ (r0.txb = [] ∨ avail r0 ≠ .netAvailable) ∧ r0.rxBitpos = none ∧
      true = !r0.cfgInvSh) := by decide

theorem test_meets_CollisionLastsOneTick :
    let s := { r0 with lineState := .collisionDetected }
    s.lineState = .collisionDetected ∧ s.txBitpos = none ∧ s.txb = [] := by decide

/-- Room for one more entry, and none. -/
theorem test_meets_TenTicksReceiveACharacter :
    let s := { r0 with prevL := true, rxb := goodEntries (List.replicate 7 0x00#8) }
    let full := { s with rxb := goodEntries (List.replicate 8 0x00#8) }
    (s.txBitpos = none ∧ s.txb = [] ∧ s.rxBitpos = none ∧ s.prevL = true) ∧
    s.rxb.length < s.params.rxbCap ∧ full.params.rxbCap ≤ full.rxb.length := by decide

theorem test_meets_FrameOnTheLineFillsTheRing :
    let s := { r0 with prevL := true }
    s.txBitpos = none ∧ s.txb = [] ∧ s.rxBitpos = none ∧ s.prevL = true ∧
    s.rxb.length + (List.replicate 8 0x00#8 : Frame).length ≤ s.params.rxbCap := by decide

/-- The first and the last tick of a frame of four bytes. -/
theorem test_meets_FrameTimeline :
    readyToSend.txBitpos = none ∧ readyToSend.txb ≠ [] ∧ avail readyToSend = .netAvailable ∧
    0 < 10 * readyToSend.txb.length ∧ 39 + 1 = 10 * readyToSend.txb.length := by decide

/-- W7's tick offset, the first and the last. -/
theorem test_meets_CollisionTimeline :
    readyToSend.txBitpos = none ∧ avail readyToSend = .netAvailable ∧
    (bitsOf readyToSend.txb)[24]? = some false ∧ (bitsOf readyToSend.txb)[0]? = some false ∧
    (bitsOf readyToSend.txb)[39]? = some true := by decide

theorem test_meets_HeldSpaceProducesNothing :
    1 ≤ r0.params.gapMin ∧ r0.txBitpos = none ∧ r0.txb = [] ∧ r0.rxBitpos = none ∧ r0.prevL = false := by decide

/-- W6's first row: the idle counts 1, 2, 4 and 5. -/
theorem test_meets_InterFrameSpacing :
    r0.params.Ok ∧ r0.backoffR.toNat ≤ r0.params.backoffRandMax ∧ r0.lineState ≠ .transmitting ∧
    r0.txBitpos = none ∧ r0.txb = [] ∧ r0.rxBitpos = none ∧ r0.idleCount = 0#16 ∧
    1 < r0.params.gapMin ∧ r0.params.gapMin ≤ 2 ∧ 4 < r0.params.gapMin + backoffWindow r0 ∧
    r0.params.gapMin + backoffWindow r0 ≤ 5 := by decide

/-- Nothing queued; a priority slot in flight before a normal head; the same head with nothing in flight. -/
theorem test_meets_PrioritySubmitShortensTheWindow :
    let prio := { slotOf [0x81#8] with prio := true }
    let s := { r0 with txq := [slotOf [0x81#8]] }
    (r0.params.Ok ∧ wellFormedBody r0.params.maxFrame [0x81#8] = true ∧ r0.txq = [] ∧ r0.inflight = none ∧
      r0.lastEvent = .msg) ∧
    (s.txq = slotOf [0x81#8] :: [] ∧ backoffWindow s = 3) ∧
    ({ s with inflight := some prio }.inflight = some prio ∧ backoffWindow { s with inflight := some prio } = 1) ∧
    { r0 with lastEvent := .collision }.lastEvent = .collision := by decide

/-- Each of the ways the collision tier ends; the POLL has an entry before the one that completes. -/
theorem test_meets_CollisionTierPersists :
    (let s := { sendingLast .stop with lastEvent := .collision }
     s.txBitpos = some .stop ∧ (after (.tick true) s).lastEvent = .msg) ∧
    (let s := { assembling .waitPayload [0xB2#8, 0x00#8] 0x04#8 with
       lastEvent := .collision, rxb := goodEntries [0x00#8, 0x4D#8] }
     s.rxb = goodEntries [0x00#8] ++ ⟨false, 0x4D#8⟩ :: [] ∧ (after .poll s).lastEvent = .msg) ∧
    (after (.data 0x4D#7) { almostComplete with lastEvent := .collision }).lastEvent = .msg ∧
    (after .reset { r0 with lastEvent := .collision }).lastEvent = .msg := by decide

theorem test_meets_CompletesValidFrame :
    CompletesValidFrame ⟨false, 0x4D#8⟩ almostComplete ∧
    (assembleAll (goodEntries [0x00#8]) (assembling .waitPayload [0xB2#8, 0x00#8] 0x04#8)).asmBuf =
      almostComplete.asmBuf := ⟨⟨rfl, rfl, rfl, rfl, rfl⟩, rfl⟩

/-- V-B8's rows. -/
theorem test_meets_CarrierLossCheck :
    r0.clDeadline = none ∧ { r0 with carrierSeen := true }.carrierSeen = true ∧
    (let s := { r0 with clDeadline := some 10000, now := 10000 }
     s.carrierSeen = false ∧ s.clDeadline = some 10000 ∧ 10000 ≤ s.now) ∧
    (let s := { r0 with clDeadline := some 10000, now := 9999 }; s.clDeadline = some 10000 ∧ s.now < 10000) := by
  decide

/-- A frame that bears a reply, with an older expectation pending, and one that does not, before the older
deadline and at it; a queued slot that follows at once; a reply that is already in RXB (R276). -/
theorem test_meets_SentFrameArmsTheCorrelator :
    let p : PendingResponse := ⟨0xE7#8, 0x05#8, 100, 1100⟩
    let bears := slotOf [0xBB#8, 0x06#8, 0x00#8]
    let bare := slotOf [0xB2#8, 0x00#8, 0x00#8]
    let s := { r0 with txOutcome := .done, inflight := some bears, pending := some p, now := 1099 }
    let f : Frame := [0xE7#8, 0x04#8, 0x06#8, 0x1A#8]
    (s.params.Ok ∧ s.txOutcome = .done ∧ s.inflight = some bears ∧ s.rxb = [] ∧ s.pending = some p ∧
      s.now < p.deadlineUs ∧ p.deadlineUs ≤ { s with now := 1100 }.now) ∧
    replySpec s.params.replySpec bears.frame = some (0xE7#8, 0x06#8) ∧
    replySpec s.params.replySpec bare.frame = none ∧
    (after .poll { s with txq := [bare], idleCount := 15#16 }).inflight = some bare ∧
    (s.asmState = .waitOpc ∧ { s with rxb := goodEntries f }.rxb = goodEntries f ∧
      shapeOK s.params.maxFrame f = true ∧ valid f = true ∧ f.head? = some 0xE7#8 ∧
      matchKey s.params.matchKey f = 0x06#8) := by decide

/-- Below and above the retry ceiling of 1, within the gap and (V-P3) with the bus available. -/
theorem test_meets_CollidedSlotIsRequeuedOrDropped :
    let slot := slotOf [0xB2#8, 0x00#8, 0x00#8]
    let s := { r0 with txOutcome := .collided, inflight := some slot, idleCount := 1#16 }
    (s.txOutcome = .collided ∧ s.inflight = some slot ∧ slot.attempts.toNat < 255 ∧
      s.idleCount.toNat < s.params.gapMin ∧ slot.attempts.toNat + 1 ≤ s.params.maxRetry ∧
      s.params.maxRetry < { slot with attempts := 0x01#8 }.attempts.toNat + 1 ∧ s.rxb = [] ∧ s.pending = none) ∧
    (after .poll s).inflight = none ∧ (after .poll { s with idleCount := 15#16 }).inflight ≠ none := by decide

/-- Each case of what POLL's step 2 leaves, at the retry ceiling of 1 and above it. -/
theorem test_meets_OutcomeHandled :
    let bears := slotOf [0xBB#8, 0x06#8, 0x00#8]
    let bare := slotOf [0xB2#8, 0x00#8, 0x00#8]
    let again := { bare with attempts := 0x01#8, lastFail := .collision }
    let s := { r0 with txOutcome := .collided }
    OutcomeHandled r0 r0 ∧
    (∃ w, OutcomeHandled { r0 with txOutcome := .done, inflight := some bare } w ∧ w.pending = none) ∧
    (∃ w, OutcomeHandled { r0 with txOutcome := .done, inflight := some bears } w ∧ w.pending ≠ none) ∧
    (∃ w, OutcomeHandled { s with inflight := some bare } w ∧ w.txq = [again] ∧ w.cnt = r0.cnt) ∧
    (∃ w, OutcomeHandled { s with inflight := some again } w ∧ w.txq = []) :=
  ⟨.nothing rfl, ⟨_, .sent _ rfl rfl (by decide), rfl⟩,
    ⟨_, .armed _ 0xE7#8 0x06#8 rfl rfl (by decide), by decide⟩,
    ⟨_, .requeued _ { slotOf [0xB2#8, 0x00#8, 0x00#8] with attempts := 0x01#8, lastFail := .collision }
      rfl rfl (by decide) (by decide) rfl, rfl, rfl⟩,
    ⟨_, .dropped _ rfl rfl (by decide) (by decide), rfl⟩⟩

/-- V-R8 and V-R7, at the deadline and one microsecond before it, here with a character in RXB; V-R6's reply. -/
theorem test_meets_ReplyTimeoutAtTheDeadline :
    let p : PendingResponse := ⟨0xE7#8, 0x05#8, 100, 1100⟩
    let s := { r0 with pending := some p, now := 1100, rxb := goodEntries [0xE7#8] }
    let r := { s with rxb := goodEntries [0xE7#8, 0x04#8, 0x05#8, 0x19#8] }
    (OutcomeHandled s s ∧ OutcomeHandled r r ∧ r0.pending = none ∧ s.pending = some p ∧ p.deadlineUs ≤ s.now ∧
      { s with now := 1099 }.now < p.deadlineUs) ∧
    ¬ Answered s.rxb p s ∧ Answered r.rxb p r ∧
    (after .poll s).resultCode = .replyTimeout ∧ (after .poll r).resultCode = .replyReceived := by
  refine ⟨⟨.nothing rfl, .nothing rfl, rfl, rfl, by decide, by decide⟩, ?_,
    ⟨goodEntries [0xE7#8, 0x04#8, 0x05#8], ⟨false, 0x19#8⟩, [], rfl, ⟨rfl, rfl, rfl, rfl, rfl⟩, rfl, rfl⟩,
    by decide, by decide⟩
  rintro ⟨before, e, later, h, hc, -⟩
  cases before with
  | nil => cases h; exact absurd hc.isData (by decide)
  | cons => simp [goodEntries] at h

/-- V-R6: the reply is in RXB and the deadline has passed. -/
theorem test_meets_ReplyInRingBeatsItsDeadline :
    let f : Frame := [0xE7#8, 0x04#8, 0x05#8, 0x19#8]
    let p : PendingResponse := ⟨0xE7#8, 0x05#8, 100, 1100⟩
    let s := { r0 with rxb := goodEntries f, pending := some p, now := 5000 }
    s.params.maxFrame ≤ 127 ∧ s.txOutcome = .none ∧ s.asmState = .waitOpc ∧ s.rxb = goodEntries f ∧
    shapeOK s.params.maxFrame f = true ∧ valid f = true ∧ s.pending = some p ∧
    f.head? = some p.replyOpc ∧ matchKey s.params.matchKey f = p.corrId := by decide

/-- V-Q10 and V-Q9; then a frame in RXB that ends the collision tier before Avail() is read (R275). -/
theorem test_meets_PollDrainsTheOldestSlot :
    let slot := slotOf [0xB2#8, 0x00#8, 0x00#8]
    let s := { r0 with txq := [slot], idleCount := 5#16 }
    let c := { s with lastEvent := .collision, rxb := goodEntries [0x81#8, 0x7E#8] }
    OutcomeHandled s s ∧ OutcomeHandled c c ∧
    (s.inflight = none ∧ s.txq = slot :: [] ∧ avail (assembleAll s.rxb s) = .netAvailable) ∧
    avail { s with idleCount := 4#16 } ≠ .netAvailable ∧ readyToSend.inflight ≠ none ∧ r0.txq = [] ∧
    avail c ≠ .netAvailable ∧ avail (assembleAll c.rxb c) = .netAvailable ∧
    (after .poll c).inflight = some slot :=
  ⟨.nothing rfl, .nothing rfl, by decide⟩

/-- The largest body, an invalid one, and the queue one below its capacity and at it. -/
theorem test_meets_SubmitQueuesOrRejects :
    let b : Frame := 0xE0#8 :: 0x10#8 :: List.replicate 13 0x00#8
    ((0x01#8).toNat < 2 ∧ 1 ≤ b.length ∧ b.length ≤ r0.params.maxFrame - 1 ∧ b.length ≤ 255) ∧
    wellFormedBody r0.params.maxFrame b = true ∧ wellFormedBody r0.params.maxFrame [0x7F#8] = false ∧
    readyToSend.txq.length + (if readyToSend.inflight = none then 0 else 1) + 1 = readyToSend.params.txqCap ∧
    (let s := { readyToSend with txq := [slotOf [0x81#8]] }
     s.params.txqCap ≤ s.txq.length + (if s.inflight = none then 0 else 1)) := by decide

theorem test_meets_QueueIsBoundedFifo :
    r0.params.Ok ∧ r0.txq = [] ∧ r0.inflight = none ∧
    ∀ b ∈ ([[0x81#8], [0xB2#8, 0x00#8, 0x00#8], [0xE0#8, 0x03#8]] : List Frame),
      wellFormedBody r0.params.maxFrame b = true := by decide

theorem test_meets_ReadStatusFieldByField : (List.replicate 255 (slotOf [0x81#8])).length ≤ 255 :=
  le_of_eq List.length_replicate

theorem test_meets_parameters : Config.pTest.Ok := by decide

theorem test_meets_BusyOutIsTheLineOrACharacter :
    busyOut r0 = false ∧ busyOut (receivingAt .stop) = true ∧ busyOut (sendingLast .stop) = true ∧
    busyOut { r0 with lineState := .collisionDetected } = true ∧ (∀ x, Instr.poll ≠ .tick x) ∧
    Instr.poll ≠ .reset := by decide

theorem test_meets_HostCommandsIgnoreTheContexts : isHostCommand .readStatus ∧ Instr.readStatus ≠ .reset :=
  ⟨rfl, by decide⟩

theorem test_meets_UnspecifiedValuesAreNeverObserved :
    SameButUnspecified r0 { r0 with txByte := 0xA5#8, rxShift := 0x5A#8 } :=
  ⟨rfl, fun h => absurd rfl h, fun h => absurd rfl h⟩

/-- A good state in the middle of a received frame, with the byte that completes it in RXB and a POLL issued. -/
theorem test_meets_EveryStepKeepsTheInvariant :
    let s := { almostComplete with rxb := goodEntries [0x4D#8], input := [record .polling 0x11#8 []] }
    Good s ∧ step s = .next (after .poll { s with input := [] }) ∧
    (after .poll { s with input := [] }).dispatch = [[0xB2#8, 0x00#8, 0x00#8, 0x4D#8]] := by
  refine ⟨⟨by decide, ⟨by decide, by decide, by decide, by decide, by decide, by decide⟩, ?_, ?_, ?_, ?_,
    by decide, by decide, by decide, ?_⟩, rfl, by decide⟩
  · refine ⟨⟨0xB2#8, [0x00#8, 0x00#8], rfl, ?_⟩, ?_⟩ <;> decide
  · intro slot h; cases h
  · intro slot h; cases h
  · intro h; exact absurd rfl h
  · intro r h; cases h

theorem test_meets_WritersOfTheTimerContextAndTheHost :
    portOf (.data 0x4D#7) = none ∧ portOf .flush = some .host ∧ Instr.flush ≠ .reset ∧
    portOf (.tick true) ≠ none ∧ Instr.tick true ≠ .poll := by decide

theorem test_meets_InvariantsOfReachableStates : Config.pTest.Ok ∧ Reachable Config.pTest r0 :=
  ⟨by decide, .reset⟩

end Sys2Proof.Machine
end

section
/-! TICK commutes with `mirror` (R18, R141, R149): the polarity flag enters a tick only where the physical
sample is read and where the driven level is written, and `mirror` inverts both. -/

namespace Sys2Proof.Machine

/-! ### The operations a tick is built of -/

@[simp] theorem latchConfig_mirror (s : State) : latchConfig (mirror s) = mirror (latchConfig s) := rfl

@[simp] theorem avail_mirror (s : State) : avail (mirror s) = avail s := rfl

@[simp] theorem receiveActive_mirror (l : Level) (s : State) :
    receiveActive l (mirror s) = receiveActive l s := rfl

@[simp] theorem endCollision_mirror (s : State) : endCollision (mirror s) = mirror (endCollision s) := by
  rw [endCollision_frame, endCollision_frame]; rfl

@[simp] theorem frameStart_mirror (av : Availability) (s : State) :
    frameStart av (mirror s) = mirror (frameStart av s) := by
  simp only [frameStart, mirror]
  split
  · split <;> rfl
  · rfl

@[simp] theorem count_mirror (e : ErrorEvent) (s : State) : count e (mirror s) = mirror (count e s) := by
  cases e <;> rfl

@[simp] theorem collide_mirror (s : State) : collide (mirror s) = mirror (collide s) := rfl

@[simp] theorem pushRxb_mirror (e : RxEntry) (s : State) :
    pushRxb e (mirror s) = mirror (pushRxb e s) := by
  rw [pushRxb, pushRxb, apply_ite mirror, count_mirror]; rfl

@[simp] theorem endTick_mirror (l : Level) (active : Bool) (s : State) :
    endTick l active (mirror s) = mirror (endTick l active s) := by
  rw [endTick_frame, endTick_frame]; rfl

@[simp] theorem txAdvance_mirror (p : TxBit) (s : State) :
    txAdvance p (mirror s) = mirror (txAdvance p s) := by
  cases p with
  | start => rfl
  | data k => rw [txAdvance, txAdvance, apply_dite mirror]; rfl
  | stop =>
    simp only [txAdvance, mirror]
    split <;> rfl

/-! ### The two branches -/

/-- Logical bit `b` is driven on the line under the polarity in force (R149). -/
def driveBit (b : Level) (s : State) : State := { s with drive := xor b s.cfgInv }

theorem transmit_eq_driveBit (p : TxBit) (l : Level) (s : State) :
    transmit p l s =
      if l = txLevel s.txByte p then txAdvance p (driveBit (txLevel s.txByte p) s)
      else collide (driveBit (txLevel s.txByte p) s) := rfl

/-- Between characters the receive branch looks for a start edge (R146). -/
theorem receive_of_idle {s : State} (h : s.rxBitpos = none) (l : Level) :
    receive l s =
      if s.prevL = true ∧ l = false then
        { driveBit true s with rxBitpos := some (.data 0), rxShift := 0x00#8 }
      else driveBit true s := by
  simp only [receive, h, driveBit]

theorem receive_of_data {s : State} {k : Fin 8} (h : s.rxBitpos = some (.data k)) (l : Level) :
    receive l s =
      { driveBit true s with rxShift := setBit s.rxShift k.val l, rxBitpos := some (rxNext k) } := by
  simp only [receive, h, driveBit]

theorem receive_of_stop {s : State} (h : s.rxBitpos = some .stop) (l : Level) :
    receive l s =
      { pushRxb { err := !l, byte := s.rxShift } (driveBit true s) with rxBitpos := none } := by
  simp only [receive, h, driveBit]

/-- The level driven under the inverted flag is the inverted level (R149). -/
@[simp] theorem driveBit_mirror (b : Level) (s : State) : driveBit b (mirror s) = mirror (driveBit b s) := by
  simp [driveBit, mirror]

@[simp] theorem transmit_mirror (p : TxBit) (l : Level) (s : State) :
    transmit p l (mirror s) = mirror (transmit p l s) := by
  have hbyte : (mirror s).txByte = s.txByte := rfl
  simp only [transmit_eq_driveBit, hbyte, driveBit_mirror, txAdvance_mirror, collide_mirror,
    apply_ite mirror]

@[simp] theorem receive_mirror (l : Level) (s : State) : receive l (mirror s) = mirror (receive l s) := by
  cases hr : s.rxBitpos with
  | none =>
    rw [receive_of_idle hr, receive_of_idle (s := mirror s) hr, driveBit_mirror, apply_ite mirror]; rfl
  | some q =>
    cases q with
    | data k => rw [receive_of_data hr, receive_of_data (s := mirror s) hr, driveBit_mirror]; rfl
    | stop =>
      rw [receive_of_stop hr, receive_of_stop (s := mirror s) hr, driveBit_mirror, pushRxb_mirror]; rfl

@[simp] theorem tickBranch_mirror (l : Level) (s : State) :
    tickBranch l (mirror s) = mirror (tickBranch l s) := by
  have hpos : (mirror s).txBitpos = s.txBitpos := rfl
  cases hp : s.txBitpos with
  | some p => simp only [tickBranch, hpos, hp, transmit_mirror, endTick_mirror]
  | none => simp only [tickBranch, hpos, hp, receiveActive_mirror, receive_mirror, endTick_mirror]

/-! ### The whole tick -/

/-- The inverted sample, read under the inverted flag, is the same logical sample (R18), and from there on
every part of the tick commutes with `mirror`. -/
theorem tickStep_mirror (x : Level) (s : State) : tickStep (!x) (mirror s) = mirror (tickStep x s) := by
  have hsample : xor (!x) (mirror (latchConfig s)).cfgInv = xor x (latchConfig s).cfgInv := by
    simp [mirror]
  simp only [tickStep, latchConfig_mirror, hsample, avail_mirror, endCollision_mirror, frameStart_mirror,
    tickBranch_mirror]

/-- Settles O32: the operations of a tick commute with `mirror` one by one. -/
theorem polarityIsARelabelling : Obligations.PolarityIsARelabelling := fun x s =>
  ⟨congrArg Host.Outcome.next (tickStep_mirror x s), tickStep x s, rfl⟩

end Sys2Proof.Machine
end

section
/-! Facts of the frame codec (R170–R178) that the engine's invariant needs. -/

namespace Sys2Proof.Machine

/-- The bytes that open no frame are the data bytes (R102, R170). -/
theorem decodeLength_eq_notOpcode {b : Byte} : decodeLength b = .notOpcode ↔ b.getLsbD 7 = false := by
  unfold decodeLength
  cases b.getLsbD 7 with
  | false => simp
  | true => simp only [if_true]; split <;> simp

theorem getLsbD_of_decodeLength {b : Byte} (h : decodeLength b ≠ .notOpcode) : b.getLsbD 7 = true := by
  rwa [ne_eq, decodeLength_eq_notOpcode, Bool.not_eq_false] at h

/-- The fixed classes have 2, 4 or 6 bytes (R170). -/
theorem fixed_of_decodeLength {b : Byte} {n : Nat} (h : decodeLength b = .fixed n) : 2 ≤ n ∧ n ≤ 6 := by
  unfold decodeLength at h
  split at h
  · split at h <;> cases h <;> omega
  · cases h

/-- Further bytes do not change the length a frame's beginning declares (R171). -/
theorem frameLength_append {f : Frame} {n : Nat} (h : frameLength f = some n) (g : Frame) :
    frameLength (f ++ g) = some n := by
  cases f with
  | nil => cases h
  | cons opc rest =>
    simp only [frameLength, List.cons_append] at h ⊢
    cases hopc : decodeLength opc with
    | fixed m => simpa only [hopc] using h
    | variableLen =>
      cases rest with
      | nil => simp [hopc] at h
      | cons len rest => simpa [hopc] using h
    | notOpcode => simp [hopc] at h

theorem xorAcc_append (f g : Frame) : xorAcc (f ++ g) = xorAcc f ^^^ xorAcc g := by
  induction f with
  | nil => simp [xorAcc]
  | cons b rest ih =>
    simp only [xorAcc, List.cons_append, List.foldr_cons] at ih ⊢
    rw [ih, BitVec.xor_assoc]

/-- The check byte completes the XOR of a frame to 0xFF (R174, R176). -/
theorem xorAcc_encodeFrame (body : Frame) : xorAcc (encodeFrame body) = 0xFF#8 := by
  have hlast : xorAcc [checkByte body] = xorAcc body ^^^ 0xFF#8 := by simp [xorAcc, checkByte]
  rw [encodeFrame, xorAcc_append, hlast, ← BitVec.xor_assoc, BitVec.xor_self, BitVec.zero_xor]

theorem valid_encodeFrame {body : Frame} (h : 1 ≤ body.length) : valid (encodeFrame body) = true := by
  simp only [valid, xorAcc_encodeFrame, Bool.and_eq_true, decide_eq_true_eq, beq_self_eq_true, and_true]
  simp only [encodeFrame, List.length_append, List.length_singleton]
  omega

theorem wellFormedBody_iff {maxFrame : Nat} {body : Frame} :
    wellFormedBody maxFrame body = true ↔
      1 ≤ body.length ∧ body.length ≤ maxFrame - 1 ∧ shapeOK maxFrame (encodeFrame body) = true := by
  simp [wellFormedBody, and_assoc]

theorem length_of_shapeOK {maxFrame : Nat} {f : Frame} (h : shapeOK maxFrame f = true) :
    f ≠ [] ∧ f.length ≤ maxFrame := by
  cases f with
  | nil => cases h
  | cons opc rest =>
    simp only [shapeOK, Bool.and_eq_true, decide_eq_true_eq] at h
    obtain ⟨⟨⟨⟨⟨-, hlen⟩, -⟩, -⟩, -⟩, -⟩ := h
    exact ⟨by simp, hlen⟩

end Sys2Proof.Machine
end

section
/-! The engine's invariant `Good` (R69 with what makes it inductive): the elements it speaks of, and one rule
for each way an operation changes them. -/

namespace Sys2Proof.Machine

variable {s t : State}

/-! ### What the invariant reads -/

/-- The elements `Good` speaks of, every other one at its reset value. -/
def invariantView (s : State) : State :=
  { State.resetOf s.params with
    lineState := s.lineState, txBitpos := s.txBitpos, rxBitpos := s.rxBitpos, backoffR := s.backoffR
    txOutcome := s.txOutcome, txq := s.txq, inflight := s.inflight, txb := s.txb, rxb := s.rxb
    asmState := s.asmState, asmBuf := s.asmBuf, asmExpect := s.asmExpect, pending := s.pending }

theorem good_invariantView : Good (invariantView s) ↔ Good s :=
  ⟨fun h => { h with engine := { h.engine with } }, fun h => { h with engine := { h.engine with } }⟩

/-- Two states that agree on what the invariant reads have it together. -/
theorem good_congr (h : invariantView s = invariantView t) : Good s ↔ Good t := by
  rw [← good_invariantView, h, good_invariantView]

theorem Good.congr (h : Good s) (hst : invariantView s = invariantView t) : Good t := (good_congr hst).mp h

@[simp] theorem good_bump (c : Counter) : Good (bump c s) ↔ Good s := good_congr rfl

@[simp] theorem good_setResult (c : ResultCode) : Good (setResult c s) ↔ Good s := good_congr rfl

@[simp] theorem good_respond (bs : List Byte) : Good (respond bs s) ↔ Good s := good_congr rfl

@[simp] theorem good_issue (r : OpRecord) (rest : List OpRecord) : Good (issue r rest s) ↔ Good s :=
  good_congr rfl

@[simp] theorem good_latchConfig : Good (latchConfig s) ↔ Good s := good_congr rfl

@[simp] theorem good_endTick (l : Level) (active : Bool) : Good (endTick l active s) ↔ Good s := by
  rw [endTick_frame]; exact good_congr rfl

@[simp] theorem good_carrierCheck : Good (carrierCheck s) ↔ Good s := by
  rw [carrierCheck_frame]; exact good_congr rfl

@[simp] theorem good_dispatchFrame (f : Frame) : Good (dispatchFrame f s) ↔ Good s := by
  rw [dispatchFrame_frame]; exact good_congr rfl

/-- RESET leaves the reset state in everything the invariant reads (R288). -/
@[simp] theorem good_resetEngine : Good (resetEngine s) ↔ Good (State.resetOf s.params) := good_congr rfl

/-! ### What the invariant says of a slot in flight (R69(3)) -/

/-- With no slot in flight the transmitter has nothing to send and nothing to report. -/
theorem Good.quiet_of_not_inflight (h : Good s) (hi : s.inflight = none) :
    s.txBitpos = none ∧ s.txb = [] ∧ s.txOutcome = .none := by
  have hsend : ¬(s.txBitpos ≠ none ∨ s.txb ≠ []) := fun hs => (h.engine.sending hs).1 hi
  have hout : ¬ s.txOutcome ≠ .none := fun ho => (h.engine.outcome ho).1 hi
  exact ⟨not_not.mp fun hp => hsend (.inl hp), not_not.mp fun hb => hsend (.inr hb), not_not.mp hout⟩

/-- What R13 says of the frame length, the transmit ring and the draws. -/
theorem bounds_of_ok {p : Params} (hp : p.Ok) :
    6 ≤ p.maxFrame ∧ p.maxFrame ≤ p.txbCap ∧ p.backoffRandMax < 65536 := by
  unfold Params.Ok at hp; omega

/-! ### Rules for the transmitter -/

/-- The transmitter drives a bit of the slot in flight (R143, R145). -/
theorem Good.sendBit (h : Good s) (p : TxBit) (rest : List Byte)
    (hi : s.inflight ≠ none) (ho : s.txOutcome = .none) (hrx : s.rxBitpos = none)
    (hb : rest.length ≤ s.params.txbCap) :
    Good { s with lineState := .transmitting, txBitpos := some p, txb := rest } :=
  { h with
    engine :=
      { h.engine with
        transmitting := by simp
        sending := fun _ => ⟨hi, ho⟩
        outcome := fun hn => absurd ho hn
        halfDuplex := fun _ => hrx }
    owned := fun _ => .inl (by simp)
    txbBound := hb }

/-- The next byte of TXB starts (R143, R145). -/
theorem Good.sendByte (h : Good s) {b : Byte} {rest : List Byte} (hb : s.txb = b :: rest)
    (hrx : s.rxBitpos = none) :
    Good { s with txByte := b, txb := rest, txBitpos := some .start, lineState := .transmitting } := by
  obtain ⟨hi, ho⟩ := h.engine.sending (.inr (by simp [hb]))
  have hlen := h.txbBound
  rw [hb, List.length_cons] at hlen
  exact (h.sendBit .start rest hi ho hrx (Nat.le_of_succ_le hlen)).congr rfl

/-- The transmitter stops, done or collided, and reports the slot in flight (R144, R145). -/
theorem Good.endSending (h : Good s) (ls : LineState) (o : TxOutcome)
    (hi : s.inflight ≠ none) (hl : ls ≠ .transmitting) (ho : o ≠ .none) :
    Good { s with lineState := ls, txBitpos := none, txb := [], txOutcome := o } :=
  { h with
    engine :=
      { h.engine with
        transmitting := by simp [hl]
        sending := fun hs => by simp at hs
        outcome := fun _ => ⟨hi, rfl, rfl⟩
        halfDuplex := fun hn => absurd rfl hn }
    owned := fun _ => .inr (.inr ho)
    txbBound := Nat.zero_le _ }

/-- The slot in flight is given up once its outcome is known (R272). -/
theorem Good.release (h : Good s) (ho : s.txOutcome ≠ .none) :
    Good { s with inflight := none, txOutcome := .none } := by
  obtain ⟨hi, hb, hp⟩ := h.engine.outcome ho
  have hcap := h.engine.capacity
  exact
    { h with
      engine :=
        { h.engine with
          sending := fun hs => by simp [hb, hp] at hs
          outcome := fun hn => absurd rfl hn
          capacity := by simp only [if_neg hi] at hcap; simp only [if_true]; omega }
      flying := fun slot hslot => by cases hslot
      owned := fun hn => absurd rfl hn }

/-- A slot joins the tail of a queue with room (R231, R235). -/
theorem Good.pushSlot (h : Good s) {slot : Slot} (hslot : GoodSlot s.params slot)
    (hroom : s.txq.length + (if s.inflight = none then 0 else 1) < s.params.txqCap) :
    Good { s with txq := s.txq ++ [slot] } :=
  { h with
    engine :=
      { h.engine with
        capacity := by simp only [List.length_append, List.length_singleton]; omega }
    queued := fun x hx => by
      rcases List.mem_append.mp hx with hx | hx
      · exact h.queued x hx
      · rw [List.mem_singleton.mp hx]; exact hslot }

/-- The oldest slot goes in flight with its whole frame in TXB (R233). -/
theorem Good.popSlot (h : Good s) {slot : Slot} {rest : List Slot}
    (hi : s.inflight = none) (hq : s.txq = slot :: rest) :
    Good { s with txq := rest, inflight := some slot, txb := s.txb ++ slot.frame } := by
  obtain ⟨hp, hb, ho⟩ := h.quiet_of_not_inflight hi
  have hslot : GoodSlot s.params slot := h.queued slot (by simp [hq])
  obtain ⟨hne, hlen⟩ := length_of_shapeOK hslot.shape
  have hcap := h.engine.capacity
  obtain ⟨-, hmax, -⟩ := bounds_of_ok h.params
  exact
    { h with
      engine :=
        { h.engine with
          sending := fun _ => ⟨by simp, ho⟩
          outcome := fun hn => absurd ho hn
          capacity := by simpa [hi, hq] using hcap }
      queued := fun x hx => h.queued x (by simp [hq, hx])
      flying := fun x hx => by cases hx; exact hslot
      owned := fun _ => .inr (.inl (by simp [hne]))
      txbBound := by rw [hb]; exact hlen.trans hmax }

/-! ### Rules for the receiver, the assembler and the correlator -/

/-- The receiver moves only while nothing is sent (R69(5)). -/
theorem Good.setRxBitpos (h : Good s) (hp : s.txBitpos = none) (q : Option RxBit) :
    Good { s with rxBitpos := q } :=
  { h with engine := { h.engine with halfDuplex := fun hn => absurd hp hn } }

/-- R69(6) is what the assembler's shape says of the buffer. -/
theorem AssemblerShape.bounded (hok : s.params.Ok) (h : AssemblerShape s) :
    s.asmBuf.length ≤ s.params.maxFrame ∧ (s.asmState = .waitOpc ↔ s.asmBuf = []) := by
  obtain ⟨hmax, -, -⟩ := bounds_of_ok hok
  unfold AssemblerShape at h
  split at h
  · next hst =>
    obtain ⟨hbuf, -⟩ := h
    simp [hst, hbuf]
  · next hst =>
    obtain ⟨⟨opc, hbuf, -⟩, -⟩ := h
    simp only [hst, hbuf, List.length_singleton, reduceCtorEq, and_true]
    omega
  · next hst =>
    obtain ⟨⟨opc, rest, hbuf, -⟩, -, hlt, hle⟩ := h
    exact ⟨(hlt.trans_le hle).le, by simp [hst, hbuf]⟩

theorem Good.setAssembler (h : Good s) {st : AsmState} {buf : Frame} {expect : Byte}
    (hs : AssemblerShape { s with asmState := st, asmBuf := buf, asmExpect := expect }) :
    Good { s with asmState := st, asmBuf := buf, asmExpect := expect } :=
  { h with engine := { h.engine with assembler := hs.bounded h.params }, shape := hs }

theorem Good.asmReset (h : Good s) : Good (asmReset s) := h.setAssembler ⟨rfl, rfl⟩

theorem Good.backoffEvent (h : Good s) (e : BackoffEvent) : Good (backoffEvent e s) := by
  obtain ⟨-, -, hrand⟩ := bounds_of_ok h.params
  exact { h with engine := { h.engine with }, drawn := draw_le s hrand }

theorem Good.clearPending (h : Good s) : Good { s with pending := none } :=
  { h with engine := { h.engine with }, window := fun r hr => by cases hr }

/-- The correlator is armed with the deadline R250 gives. -/
theorem Good.setPending (h : Good s) (r : PendingResponse)
    (hr : r.deadlineUs = r.sentUs + s.params.respTimeoutUs) : Good { s with pending := some r } :=
  { h with engine := { h.engine with }, window := fun x hx => by cases hx; exact hr }

end Sys2Proof.Machine
end

section
/-! Every operation of the engine keeps `Good`, one lemma an operation, in the order of the model. -/

namespace Sys2Proof.Machine

variable {s : State}

/-! ### TICK -/

/-- The bus is available only while no character is under way (R210). -/
theorem rxBitpos_of_avail (h : avail s = .netAvailable) : s.rxBitpos = none := by
  unfold avail at h
  split at h
  · cases h
  · rename_i hidle
    exact not_not.mp fun hr => hidle (.inr (.inr hr))

theorem Good.endCollision (h : Good s) : Good (endCollision s) := by
  rw [endCollision_frame]
  refine { h with engine := { h.engine with transmitting := ?_ } }
  have htr := h.engine.transmitting
  dsimp only
  split
  · next hc => simpa [hc] using htr
  · exact htr

theorem Good.frameStart (h : Good s) {av : Availability}
    (hav : av = .netAvailable → s.rxBitpos = none) : Good (frameStart av s) := by
  rcases frameStart_cases av s with ⟨b, rest, -, hb, hnet, heq⟩ | ⟨-, heq⟩ <;> rw [heq]
  · exact h.sendByte hb (hav hnet)
  · exact h

theorem Good.collide (h : Good s) (hi : s.inflight ≠ none) : Good (collide s) := by
  have hend := h.endSending .collisionDetected .collided hi (by simp) (by simp)
  exact (good_bump _).mpr (hend.backoffEvent .collision)

theorem Good.frameDone (h : Good s) (hi : s.inflight ≠ none) (hb : s.txb = []) : Good (frameDone s) := by
  have hend := h.endSending .idle .done hi (by simp) (by simp)
  rw [← hb] at hend
  exact hend.backoffEvent .msg

theorem Good.txAdvance (h : Good s) {p : TxBit} (hp : s.txBitpos = some p) : Good (txAdvance p s) := by
  have hsend : s.txBitpos ≠ none := by simp [hp]
  obtain ⟨hi, ho⟩ := h.engine.sending (.inl hsend)
  have hrx := h.engine.halfDuplex hsend
  have hline := h.engine.transmitting.mpr hsend
  rcases txAdvance_cases p s with ⟨q, -, -, heq⟩ | ⟨b, rest, -, hb, heq⟩ | ⟨-, hb, heq⟩ <;> rw [heq]
  · have hbit := h.sendBit q s.txb hi ho hrx h.txbBound
    rwa [← hline] at hbit
  · have hbyte := h.sendByte hb hrx
    rwa [← hline] at hbyte
  · exact h.frameDone hi hb

theorem Good.transmit (h : Good s) {p : TxBit} (hp : s.txBitpos = some p) (l : Level) :
    Good (transmit p l s) := by
  have hdrive : Good { s with drive := xor (txLevel s.txByte p) s.cfgInv } := h.congr rfl
  rcases transmit_cases p l s with ⟨-, heq⟩ | ⟨-, heq⟩ <;> rw [heq]
  · exact hdrive.txAdvance hp
  · exact hdrive.collide (h.engine.sending (.inl (by simp [hp]))).1

theorem Good.pushRxb (h : Good s) (e : RxEntry) : Good (pushRxb e s) := by
  rcases pushRxb_cases e s with ⟨hroom, heq⟩ | ⟨-, heq⟩ <;> rw [heq]
  · exact { h with engine := { h.engine with }, rxbBound := by simpa using hroom }
  · exact (good_bump _).mpr h

theorem pushRxb_txBitpos (e : RxEntry) (s : State) : (pushRxb e s).txBitpos = s.txBitpos := by
  rcases pushRxb_cases e s with ⟨-, heq⟩ | ⟨-, heq⟩ <;> rw [heq]; rfl

theorem Good.receive (h : Good s) (hp : s.txBitpos = none) (l : Level) : Good (receive l s) := by
  have hdrive : Good { s with drive := !s.cfgInv } := h.congr rfl
  rcases receive_cases l s with ⟨-, -, -, heq⟩ | ⟨-, -, heq⟩ | ⟨k, -, heq⟩ | ⟨-, heq⟩ <;> rw [heq]
  · exact (h.setRxBitpos hp (some (.data 0))).congr rfl
  · exact hdrive
  · exact (h.setRxBitpos hp (some (rxNext k))).congr rfl
  · exact (hdrive.pushRxb _).setRxBitpos (by rw [pushRxb_txBitpos]; exact hp) none

theorem Good.tickStep (h : Good s) (x : Level) : Good (tickStep x s) := by
  have hend : Good (Machine.endCollision (latchConfig s)) := (good_latchConfig.mpr h).endCollision
  have hstart : Good (Machine.frameStart (avail (latchConfig s)) (Machine.endCollision (latchConfig s))) :=
    hend.frameStart fun hav => by rw [endCollision_frame]; exact rxBitpos_of_avail (s := latchConfig s) hav
  rcases tickStep_cases x s with ⟨p, hp, heq⟩ | ⟨hp, -, heq⟩ <;> rw [heq, good_endTick]
  · exact hstart.transmit hp _
  · exact hend.receive (by rw [endCollision_frame]; exact hp) _

/-! ### The receive assembler -/

theorem Good.correlate (h : Good s) (f : Frame) : Good (correlate f s) := by
  rcases correlate_cases f s with ⟨-, heq⟩ | ⟨-, heq⟩ <;> rw [heq]
  · exact ((good_setResult _).mpr h).clearPending
  · exact h

theorem Good.complete (h : Good s) (f : Frame) : Good (complete f s) := by
  rcases complete_cases f s with ⟨-, heq⟩ | ⟨-, heq⟩ <;> rw [heq]
  · rw [good_dispatchFrame]
    exact (((good_bump _).mpr h).backoffEvent .msg).correlate f
  · exact (good_bump _).mpr h

/-- An opcode byte of a fixed class leaves a frame of that length under way (R191, R192). -/
theorem Good.startFixed (h : Good s) {b : Byte} {n : Nat} (hb : decodeLength b = .fixed n) :
    Good (startFixed (BitVec.ofNat 8 n) b s) := by
  obtain ⟨hmax, -, -⟩ := bounds_of_ok h.params
  obtain ⟨hlo, hhi⟩ := fixed_of_decodeLength hb
  have hn : (BitVec.ofNat 8 n).toNat = n := by rw [BitVec.toNat_ofNat]; omega
  have hbit : b.getLsbD 7 = true := getLsbD_of_decodeLength (by simp [hb])
  rw [startFixed_frame]
  suffices hs : AssemblerShape
      { s with asmState := .waitPayload, asmBuf := [b], asmExpect := BitVec.ofNat 8 n } from
    (h.setAssembler hs).congr rfl
  refine ⟨⟨b, [], rfl, hbit, by simp, by simp [hb]⟩, ?_, ?_, ?_⟩
  · simp [frameLength, hb, hn]
  · simp only [hn, List.length_singleton]; omega
  · simp only [hn]; omega

theorem Good.startVariable (h : Good s) {b : Byte} (hb : decodeLength b = .variableLen) :
    Good (startVariable b s) := by
  rw [startVariable_frame]
  have hs : AssemblerShape { s with asmState := .waitLen, asmBuf := [b], asmExpect := 0x00#8 } :=
    ⟨⟨b, rfl, hb⟩, rfl⟩
  exact (h.setAssembler hs).congr rfl

/-- A length byte within R193's bounds follows the opcode that waits for it. -/
theorem AssemblerShape.lengthByte {b : Byte} (h : AssemblerShape s) (hst : s.asmState = .waitLen)
    (hb : b.getLsbD 7 = false) (hlo : 3 ≤ b.toNat) (hhi : b.toNat ≤ s.params.maxFrame) :
    AssemblerShape { s with asmBuf := s.asmBuf ++ [b], asmExpect := b, asmState := .waitPayload } := by
  simp only [AssemblerShape, hst] at h
  obtain ⟨⟨opc, hbuf, hopc⟩, -⟩ := h
  have hbit : opc.getLsbD 7 = true := getLsbD_of_decodeLength (by simp [hopc])
  refine ⟨⟨opc, [b], by simp [hbuf], hbit, by simpa using hb, fun _ => ⟨by simp, hlo⟩⟩, ?_, ?_, hhi⟩
  · simp [hbuf, frameLength, hopc]
  · simp only [hbuf, List.length_append, List.length_singleton]; omega

/-- A payload byte that does not complete the frame extends it (R195). -/
theorem AssemblerShape.payloadByte {b : Byte} (h : AssemblerShape s) (hst : s.asmState = .waitPayload)
    (hb : b.getLsbD 7 = false) (hne : s.asmBuf.length + 1 ≠ s.asmExpect.toNat) :
    AssemblerShape { s with asmBuf := s.asmBuf ++ [b] } := by
  simp only [AssemblerShape, hst] at h ⊢
  obtain ⟨⟨opc, rest, hbuf, hopc, hrest, hvar⟩, hframe, hlt, hle⟩ := h
  refine ⟨⟨opc, rest ++ [b], by simp [hbuf], hopc, ?_, fun hv => ⟨by simp, (hvar hv).2⟩⟩,
    frameLength_append hframe [b], ?_, hle⟩
  · intro x hx
    rcases List.mem_append.mp hx with hx | hx
    · exact hrest x hx
    · rw [List.mem_singleton.mp hx]; exact hb
  · simp only [List.length_append, List.length_singleton]; omega

theorem correlate_asmBuf (f buf : Frame) (s : State) :
    correlate f { s with asmBuf := buf } = { correlate f s with asmBuf := buf } := by
  cases hp : s.pending with
  | none => simp only [correlate, hp]
  | some p =>
    simp only [correlate, hp]
    split
    · rfl
    · rw [hp]

/-- Completing a frame does not read the assembler's buffer (R196). -/
theorem complete_asmBuf (f buf : Frame) (s : State) :
    complete f { s with asmBuf := buf } = { complete f s with asmBuf := buf } := by
  have hevent : backoffEvent .msg (bump .rxFrames { s with asmBuf := buf })
      = { backoffEvent .msg (bump .rxFrames s) with asmBuf := buf } := rfl
  cases hv : valid f with
  | false => simp only [complete, hv]; rfl
  | true => simp only [complete, hv, if_true, dispatchFrame_frame, hevent, correlate_asmBuf]

/-- The byte that completes a frame leaves the assembler empty, whatever its buffer held meanwhile (R195). -/
theorem Good.completeAndReset (h : Good s) (f buf : Frame) :
    Good (Machine.asmReset (Machine.complete f { s with asmBuf := buf })) := by
  rw [complete_asmBuf]
  exact (h.complete f).asmReset.congr rfl

theorem Good.assembleData (h : Good s) {b : Byte} (hb : b.getLsbD 7 = false) : Good (assembleData b s) := by
  rcases assembleData_cases b s with
    ⟨-, heq⟩ | ⟨-, -, heq⟩ | ⟨hst, hlo, hhi, heq⟩ | ⟨hst, hne, heq⟩ | ⟨-, -, heq⟩ <;> rw [heq]
  · exact (good_bump _).mpr h
  · exact (good_bump _).mpr h.asmReset
  · exact h.setAssembler (h.shape.lengthByte hst hb hlo hhi)
  · exact h.setAssembler (h.shape.payloadByte hst hb hne)
  · exact h.completeAndReset _ _

theorem Good.assembleByte (h : Good s) (b : Byte) : Good (assembleByte b s) := by
  rcases assembleByte_cases b s with ⟨n, hb, heq⟩ | ⟨hb, heq⟩ | ⟨hb, heq⟩ <;> rw [heq]
  · exact h.startFixed hb
  · exact h.startVariable hb
  · exact h.assembleData (decodeLength_eq_notOpcode.mp hb)

theorem Good.assemble (h : Good s) (e : RxEntry) : Good (assemble e s) := by
  rcases assemble_cases e s with ⟨-, heq⟩ | ⟨-, heq⟩ <;> rw [heq]
  · exact (good_bump _).mpr h.asmReset
  · exact h.assembleByte e.byte

theorem Good.assembleAll (h : Good s) (es : List RxEntry) : Good (assembleAll es s) := by
  induction es generalizing s with
  | nil => exact h
  | cons e rest ih => exact ih (h.assemble e)

/-! ### POLL -/

theorem Good.drainRxb (h : Good s) : Good (drainRxb s) := by
  rw [Machine.drainRxb, drainEntries_eq]
  have hall := h.assembleAll s.rxb
  exact { hall with engine := { hall.engine with }, rxbBound := Nat.zero_le _ }

theorem Good.arm (h : Good s) (f : Frame) : Good (arm f s) := by
  rcases arm_cases f s with ⟨-, heq⟩ | ⟨ro, cid, -, heq⟩ <;> rw [heq]
  · exact h
  · split
    · exact ((good_bump .replyTimeout).mpr h).setPending _ rfl
    · exact h.setPending _ rfl

theorem Good.handleDone (h : Good s) (ho : s.txOutcome ≠ .none) : Good (handleDone s) := by
  have hsent : Good (setResult .sent (bump .txFrames { s with inflight := none, txOutcome := .none })) := by
    simpa using h.release ho
  unfold Machine.handleDone
  split
  · exact hsent.arm _
  · exact hsent

/-- Requeueing the slot in flight takes no more room than it had (R235). -/
theorem Good.handleCollided (h : Good s) (ho : s.txOutcome ≠ .none) : Good (handleCollided s) := by
  have hfree := h.release ho
  rcases handleCollided_cases s with ⟨-, heq⟩ | ⟨slot, -, -, heq⟩ | ⟨slot, hi, hretry, heq⟩ <;> rw [heq]
  · exact hfree
  · simpa using hfree
  · obtain ⟨hshape, hvalid, -⟩ := h.flying slot hi
    have hroom := h.engine.capacity
    simp only [hi, reduceCtorEq, if_false] at hroom
    rw [good_setResult]
    exact hfree.pushSlot (slot := collidedSlot slot) ⟨hshape, hvalid, hretry⟩ hroom

theorem Good.handleOutcome (h : Good s) : Good (handleOutcome s) := by
  unfold Machine.handleOutcome
  cases ho : s.txOutcome with
  | none => exact h
  | done => exact h.handleDone (by simp [ho])
  | collided => exact h.handleCollided (by simp [ho])

theorem Good.timeoutCheck (h : Good s) : Good (timeoutCheck s) := by
  rcases timeoutCheck_cases s with ⟨-, heq⟩ | ⟨-, heq⟩ <;> rw [heq]
  · exact Good.clearPending (by simpa using h)
  · exact h

theorem Good.drainNext (h : Good s) : Good (drainNext s) := by
  rcases drainNext_cases s with ⟨slot, rest, hi, hq, -, heq⟩ | ⟨-, heq⟩ <;> rw [heq]
  · exact h.popSlot hi hq
  · exact h

theorem Good.pollStep (h : Good s) : Good (pollStep s) :=
  (good_carrierCheck.mpr h).handleOutcome.drainRxb.timeoutCheck.drainNext

/-! ### The host commands -/

theorem Good.enqueue (h : Good s) (body : Frame) (prio : Bool) : Good (enqueue body prio s) := by
  rcases enqueue_cases body prio s with ⟨-, heq⟩ | ⟨-, -, heq⟩ | ⟨hbody, hroom, heq⟩ <;>
    rw [heq, good_respond]
  · exact h
  · exact h
  · obtain ⟨hlen, -, hshape⟩ := wellFormedBody_iff.mp hbody
    refine h.pushSlot ⟨hshape, valid_encodeFrame hlen, Nat.zero_le _⟩ ?_
    unfold occupancy at hroom
    cases hi : s.inflight <;> simpa [hi] using hroom

theorem Good.flushQueue (h : Good s) : Good (flushQueue s) :=
  { h with
    engine :=
      { h.engine with
        capacity := (Nat.add_le_add_right (Nat.zero_le _) _).trans h.engine.capacity }
    queued := fun slot hslot => by cases hslot }

theorem good_resetOf {p : Params} (hp : p.Ok) : Good (State.resetOf p) where
  params := hp
  engine :=
    { transmitting := by simp [State.resetOf]
      sending := fun hs => by simp [State.resetOf] at hs
      outcome := fun ho => absurd rfl ho
      capacity := Nat.zero_le _
      halfDuplex := fun hn => absurd rfl hn
      assembler := ⟨Nat.zero_le _, by simp [State.resetOf]⟩ }
  shape := ⟨rfl, rfl⟩
  queued := fun slot hslot => by cases hslot
  flying := fun slot hslot => by cases hslot
  owned := fun hn => absurd rfl hn
  txbBound := Nat.zero_le _
  rxbBound := Nat.zero_le _
  drawn := Nat.zero_le _
  window := fun r hr => by cases hr

theorem Good.illegal (h : Good s) : Good (illegal s) := by
  rw [illegal_eq]; exact (good_respond _).mpr h

/-! ### Operations, steps and runs -/

/-- The first byte of a wire row has the length class of the row (R103). -/
theorem decodeLength_codeOf_opcode (m : BitVec 5) :
    decodeLength (codeOf (.opcLen2 m)) = .fixed 2 ∧ decodeLength (codeOf (.opcLen4 m)) = .fixed 4 ∧
    decodeLength (codeOf (.opcLen6 m)) = .fixed 6 ∧
    decodeLength (codeOf (.opcLenVar m)) = .variableLen := by
  revert m; decide

theorem getLsbD_codeOf_data (v : BitVec 7) : (codeOf (.data v)).getLsbD 7 = false := by
  rw [codeOf, BitVec.getLsbD_append]; simp

/-- Every operation answers a next state that keeps the invariant, the wire rows included. -/
theorem Good.exec (h : Good s) (i : Instr) : ∃ t, exec i s = .next t ∧ Good t := by
  cases i with
  | opcLen2 m =>
    obtain ⟨hlen, -, -, -⟩ := decodeLength_codeOf_opcode m
    exact ⟨_, rfl, h.startFixed hlen⟩
  | opcLen4 m =>
    obtain ⟨-, hlen, -, -⟩ := decodeLength_codeOf_opcode m
    exact ⟨_, rfl, h.startFixed hlen⟩
  | opcLen6 m =>
    obtain ⟨-, -, hlen, -⟩ := decodeLength_codeOf_opcode m
    exact ⟨_, rfl, h.startFixed hlen⟩
  | opcLenVar m =>
    obtain ⟨-, -, -, hlen⟩ := decodeLength_codeOf_opcode m
    exact ⟨_, rfl, h.startVariable hlen⟩
  | data v => exact ⟨_, rfl, h.assembleData (getLsbD_codeOf_data v)⟩
  | submit flags body =>
    refine ⟨_, rfl, ?_⟩
    split
    · exact h.enqueue body _
    · exact h.illegal
  | flush => exact ⟨_, rfl, h.flushQueue.congr rfl⟩
  | config cfg =>
    refine ⟨_, rfl, ?_⟩
    split
    · exact h.congr rfl
    · exact h.illegal
  | readResult => exact ⟨_, rfl, h.congr rfl⟩
  | readStatus => exact ⟨_, rfl, h.congr rfl⟩
  | setSink en =>
    refine ⟨_, rfl, ?_⟩
    split
    · exact h.congr rfl
    · exact h.illegal
  | readCounter idx =>
    refine ⟨_, rfl, ?_⟩
    split
    · exact h.congr rfl
    · exact h.illegal
  | reset => exact ⟨_, rfl, (good_respond _).mpr (good_resetEngine.mpr (good_resetOf h.params))⟩
  | tick x => exact ⟨_, rfl, h.tickStep x⟩
  | poll => exact ⟨_, rfl, h.pollStep⟩

/-- A step runs an operation or answers ILLEGAL, and both keep the invariant. -/
theorem Good.step {t : State} (h : Good s) (hst : step s = .next t) : Good t := by
  unfold Machine.step at hst
  split at hst
  · cases hst; exact h
  · next r rest hin =>
    have hissue : Good (issue r rest s) := (good_issue r rest).mpr h
    split at hst
    · next i hdec =>
      obtain ⟨u, hu, hgood⟩ := hissue.exec i
      rw [hu] at hst; cases hst; exact hgood
    · next e hdec =>
      unfold reject at hst
      split at hst <;> cases hst
      exact hissue.illegal

/-- Settles O58: at reset every ring and slot is empty and nothing is under way. -/
theorem invariantHoldsAtReset : Obligations.InvariantHoldsAtReset := fun _ hp => good_resetOf hp

/-- Settles O57: each operation of a step keeps every clause of the invariant. -/
theorem everyStepKeepsTheInvariant : Obligations.EveryStepKeepsTheInvariant := fun _ _ h hst => h.step hst

/-- Issuing records leaves the invariant alone, so induction along a run carries it from reset. -/
theorem Reachable.good {p : Params} (hp : p.Ok) (h : Reachable p s) : Good s := by
  induction h with
  | reset => exact good_resetOf hp
  | issued s rs _ ih => exact ih.congr rfl
  | stepped s t _ hst ih => exact ih.step hst

/-- Settles O59: R69's six clauses are a part of the invariant. -/
theorem invariantsOfReachableStates : Obligations.InvariantsOfReachableStates :=
  fun _ _ hp hs => (hs.good hp).engine

end Sys2Proof.Machine
end

section
/-! Records and characters (R102, R103, R110, R111): the decoder is the inverse of the encoder, port by
port. -/

namespace Sys2Proof.Machine

/-! ### From the operation to what it is written in -/

/-- A wire byte names its row in `b[7:5]` and carries the row's operand in the bits below (R102, R103). -/
theorem decodeWire_codeOf {i : Instr} (hwire : portOf i = none) : decodeWire (codeOf i) = i := by
  cases i with
  | opcLen2 m | opcLen4 m | opcLen6 m | opcLenVar m | data m => clear hwire; revert m; decide
  | _ => cases hwire

/-- The count byte of a SUBMIT record is its body's length, if one byte can hold it (R111). -/
theorem decodeHost_submit (flags : Byte) {body : Frame} (hlen : body.length ≤ 255) :
    decodeHost 0x01#8 (flags :: BitVec.ofNat 8 body.length :: body) = .ok (.submit flags body) := by
  have hcount : body.length = (BitVec.ofNat 8 body.length).toNat := by
    rw [BitVec.toNat_ofNat, Nat.mod_eq_of_lt (by omega)]
  exact if_pos hcount

/-- Settles O1: a wire row's byte keeps its operand bits, a record its operand bytes. -/
theorem decodeOfRecordIsTheOperation : Obligations.DecodeOfRecordIsTheOperation := by
  intro i now henc
  cases i with
  | opcLen2 _ | opcLen4 _ | opcLen6 _ | opcLenVar _ | data _ =>
    exact congrArg Except.ok (decodeWire_codeOf rfl)
  | submit flags body => exact decodeHost_submit flags (of_decide_eq_true henc)
  | tick x => cases x <;> rfl
  | flush | config _ | readResult | readStatus | setSink _ | readCounter _ | reset | poll => rfl

/-! ### From what is written to the operation -/

theorem writtenOf_of_recordOf {i : Instr} {now : Nat} {r : OpRecord} (h : recordOf i now = some r) :
    writtenOf i now = .record r := by
  rw [writtenOf, h]

/-- Every byte is the wire byte of the row it decodes to (R102, R103); there are only 256. -/
theorem writtenOf_decodeWire (b : Byte) (now : Nat) : writtenOf (decodeWire b) now = .character b := by
  have hport : portOf (decodeWire b) = none := by revert b; decide
  have hcode : codeOf (decodeWire b) = b := by revert b; decide
  rw [writtenOf, recordOf, hport, hcode]; rfl

theorem encodable_decodeWire (b : Byte) : (decodeWire b).encodable = true := by
  revert b; decide

/-- A host record that decodes is its operation's, by R111's row of its code. -/
theorem recordOf_of_decodeHost {code : Byte} {operands : List Byte} {i : Instr}
    (h : decodeHost code operands = .ok i) (now : Nat) :
    i.encodable = true ∧
      recordOf i now = some { port := .host, code := code, operands := operands, now := now } := by
  have hcode {n : Nat} (hn : code.toNat = n) : code = BitVec.ofNat 8 n := by simp [← hn]
  unfold decodeHost at h
  split at h
  case h_1 flags n body hc =>
    rw [hcode hc]
    split at h
    · next hlen =>
      cases h
      have hn := n.isLt
      exact ⟨decide_eq_true (by omega), by simp [recordOf, portOf, codeOf, operandsOf, hlen]⟩
    · cases h
  case h_9 =>
    split at h <;> cases h
  all_goals
    next hc => rw [hcode hc]; cases h; exact ⟨rfl, rfl⟩

/-- A timer record that decodes is a TICK's (R110, R115). -/
theorem recordOf_of_decodeTimer {code : Byte} {operands : List Byte} {i : Instr}
    (h : decodeTimer code operands = .ok i) (now : Nat) :
    i.encodable = true ∧
      recordOf i now = some { port := .timer, code := code, operands := operands, now := now } := by
  unfold decodeTimer at h
  split at h
  · next x hc =>
    obtain rfl : code = 0x10#8 := BitVec.eq_of_toNat_eq hc
    split at h
    · next hx => cases h; exact ⟨rfl, by rw [hx]; rfl⟩
    · split at h
      · next hx => cases h; exact ⟨rfl, by rw [hx]; rfl⟩
      · cases h
  · cases h

/-- A polling record that decodes is POLL's (R110, R115). -/
theorem recordOf_of_decodePolling {code : Byte} {operands : List Byte} {i : Instr}
    (h : decodePolling code operands = .ok i) (now : Nat) :
    i.encodable = true ∧
      recordOf i now = some { port := .polling, code := code, operands := operands, now := now } := by
  unfold decodePolling at h
  split at h
  · next hc =>
    obtain rfl : code = 0x11#8 := BitVec.eq_of_toNat_eq hc
    cases h; exact ⟨rfl, rfl⟩
  · cases h

theorem recordOf_of_decode {r : OpRecord} {i : Instr} (h : decode r = .ok i) :
    i.encodable = true ∧ recordOf i r.now = some r := by
  obtain ⟨port, code, operands, now⟩ := r
  cases port with
  | host => exact recordOf_of_decodeHost h now
  | timer => exact recordOf_of_decodeTimer h now
  | polling => exact recordOf_of_decodePolling h now

/-- Settles O2: a record is its operation's at its own clock value, and a byte its row's at any. -/
theorem decodedRecordIsTheEncodedOne : Obligations.DecodedRecordIsTheEncodedOne := by
  intro w i h
  cases w with
  | record r =>
    obtain ⟨henc, hrec⟩ := recordOf_of_decode h
    exact ⟨henc, r.now, (writtenOf_of_recordOf hrec).symm⟩
  | character b =>
    cases h
    exact ⟨encodable_decodeWire b, 0, (writtenOf_decodeWire b 0).symm⟩

/-- Settles O3, by running the decoders on the words. -/
theorem specWordsDecode : Obligations.SpecWordsDecode :=
  ⟨rfl, rfl, rfl, rfl, rfl, rfl, rfl, rfl, rfl⟩

/-! ### The step -/

theorem step_of_decode {s : State} {r : OpRecord} {rest : List OpRecord} {i : Instr}
    (hin : s.input = r :: rest) (hdec : decode r = .ok i) : step s = exec i (issue r rest s) := by
  simp only [step, hin, hdec]

/-- Settles O4: `issue` is the state the statement writes out. -/
theorem stepRunsTheDecodedOperation : Obligations.StepRunsTheDecodedOperation :=
  fun _ _ _ _ hin hdec => step_of_decode hin hdec

end Sys2Proof.Machine
end

section
/-! The check byte of a frame (R106, R174, R176). -/

namespace Sys2Proof.Machine

theorem xorAcc_cons (b : Byte) (f : Frame) : xorAcc (b :: f) = b ^^^ xorAcc f := rfl

theorem checkByte_eq_not (body : Frame) : checkByte body = ~~~ xorAcc body :=
  BitVec.xor_allOnes

/-- Data bytes have bit 7 = 0, and so has their XOR. -/
theorem getLsbD_xorAcc_of_data {f : Frame} (h : ∀ b ∈ f, b.getLsbD 7 = false) :
    (xorAcc f).getLsbD 7 = false := by
  induction f with
  | nil => rfl
  | cons b rest ih =>
    obtain ⟨hb, hrest⟩ := List.forall_mem_cons.mp h
    rw [xorAcc_cons, BitVec.getLsbD_xor, hb, ih hrest]; rfl

/-- The opcode's bit 7 is the only one in the fold, and the complement clears it (R106). -/
theorem getLsbD_checkByte {opc : Byte} {rest : Frame} (hopc : opc.getLsbD 7 = true)
    (hrest : ∀ b ∈ rest, b.getLsbD 7 = false) : (checkByte (opc :: rest)).getLsbD 7 = false := by
  rw [checkByte_eq_not, xorAcc_cons, BitVec.getLsbD_not, BitVec.getLsbD_xor, hopc,
    getLsbD_xorAcc_of_data hrest]
  rfl

/-- Settles O9: the check byte is a complement, so it completes the XOR and clears the opcode's bit 7. -/
theorem checkByteClosesTheFrame : Obligations.CheckByteClosesTheFrame := fun body =>
  ⟨⟨checkByte body, rfl, checkByte_eq_not body⟩, xorAcc_encodeFrame body,
    fun _ _ hbody hopc hrest => hbody ▸ getLsbD_checkByte hopc hrest⟩

end Sys2Proof.Machine
end

section
/-! A character of another node on the line (R100, R101, R146–R148): what each of its ten ticks leaves, and
from that what the whole character and a sequence of characters leave. -/

namespace Sys2Proof.Machine

/-! ### Runs of ticks -/

theorem afterTicks_append {xs : List Level} {s t : State} (h : afterTicks xs s = .next t) (ys : List Level) :
    afterTicks (xs ++ ys) s = afterTicks ys t := by
  induction xs generalizing s with
  | nil => cases h; rfl
  | cons x rest ih => exact ih (s := tickStep x s) h

theorem afterTicks_single {x : Level} {s t : State} (h : exec (.tick x) s = .next t) :
    afterTicks [x] s = .next t := by
  simp only [afterTicks, h]

theorem onLine_append (inv : Bool) (xs ys : List Level) :
    onLine inv (xs ++ ys) = onLine inv xs ++ onLine inv ys := List.map_append

/-! ### The ticks of a character, one by one -/

/-- What an active tick of the receive branch leaves (R141, R149 to R152), with logical sample `l` and the
receive path at `q` with the bits `shift`. -/
def hearing (q : Option RxBit) (shift : Byte) (l : Level) (s : State) : State :=
  { s with
    cfgInv := s.cfgInvSh, speedSel := s.cfgSpeedSh, drive := xor true s.cfgInvSh
    lineState := if s.lineState = .collisionDetected then .idle else s.lineState
    prevL := l, idleCount := 0#16, carrierSeen := true, rxBitpos := q, rxShift := shift }

@[simp] theorem hearing_hearing (q p : Option RxBit) (v w : Byte) (l m : Level) (s : State) :
    hearing q v l (hearing p w m s) = hearing q v l s := by
  by_cases hc : s.lineState = .collisionDetected <;> simp [hearing, hc]

section
variable (s : State)

@[simp] theorem endCollision_rxBitpos : (endCollision s).rxBitpos = s.rxBitpos := by
  rw [endCollision_frame]

@[simp] theorem endCollision_rxShift : (endCollision s).rxShift = s.rxShift := by
  rw [endCollision_frame]

@[simp] theorem endCollision_prevL : (endCollision s).prevL = s.prevL := by
  rw [endCollision_frame]

end

theorem endTick_listening (q : Option RxBit) (v : Byte) (l : Level) (s : State) :
    endTick l true { driveBit true (endCollision (latchConfig s)) with rxBitpos := q, rxShift := v } =
      hearing q v l s := by
  rw [endTick_frame, endCollision_frame]; rfl

/-- The end of the tick touches nothing that a push into RXB reads or writes. -/
theorem endTick_pushRxb (e : RxEntry) (l : Level) (s : State) :
    endTick l true { pushRxb e s with rxBitpos := none } =
      pushRxb e (endTick l true { s with rxBitpos := none }) := by
  rw [endTick_frame, endTick_frame]
  unfold pushRxb
  split <;> rfl

section
variable {s : State} (hp : s.txBitpos = none) (hb : s.txb = [])
include hp hb

/-- With nothing to send, a tick hears its logical sample. -/
theorem exec_tick_listening (l : Level) :
    exec (.tick (xor l s.cfgInvSh)) s =
      .next (endTick l (receiveActive l (endCollision (latchConfig s)))
        (receive l (endCollision (latchConfig s)))) := by
  have hsample : xor (xor l s.cfgInvSh) s.cfgInvSh = l := by simp
  rw [exec_tick_receive s _ hp (.inl hb), hsample]

/-- R146: a space after a mark is the start edge. -/
theorem exec_tick_startBit (hr : s.rxBitpos = none) (hl : s.prevL = true) :
    exec (.tick (xor false s.cfgInvSh)) s = .next (hearing (some (.data 0)) 0x00#8 false s) := by
  have hact : receiveActive false (endCollision (latchConfig s)) = true := by simp [receiveActive]
  rw [exec_tick_listening hp hb, hact, receive_of_idle (by simpa using hr), if_pos (by simpa using hl),
    endTick_listening]

/-- R147: a sample inside a character is its next data bit. -/
theorem exec_tick_dataBit {k : Fin 8} (hr : s.rxBitpos = some (.data k)) (l : Level) :
    exec (.tick (xor l s.cfgInvSh)) s =
      .next (hearing (some (rxNext k)) (setBit s.rxShift k.val l) l s) := by
  have hact : receiveActive l (endCollision (latchConfig s)) = true := by simp [receiveActive, hr]
  rw [exec_tick_listening hp hb, hact, receive_of_data (k := k) (by simpa using hr), endTick_listening]
  simp

/-- R148: the stop bit ends the character, and its byte is pushed. -/
theorem exec_tick_stopBit (hr : s.rxBitpos = some .stop) (l : Level) :
    exec (.tick (xor l s.cfgInvSh)) s =
      .next (pushRxb { err := !l, byte := s.rxShift } (hearing none s.rxShift l s)) := by
  have hact : receiveActive l (endCollision (latchConfig s)) = true := by simp [receiveActive, hr]
  have hshift : (endCollision (latchConfig s)).rxShift = s.rxShift := by simp
  rw [exec_tick_listening hp hb, hact, receive_of_stop (by simpa using hr), endTick_pushRxb,
    ← endTick_listening, ← hshift]
  rfl

end

/-! ### The whole character -/

/-- The receive path before it has read data bit `n`, or the stop bit after the eight. -/
def rxAt (n : Nat) : RxBit := if h : n < 8 then .data ⟨n, h⟩ else .stop

/-- rx_shift with the first `n` data bits of `b` read, the others still 0. -/
def lowBits (b : Byte) (n : Nat) : Byte := (b.setWidth n).setWidth 8

theorem lowBits_eight (b : Byte) : lowBits b 8 = b := by simp [lowBits]

theorem setBit_lowBits (b : Byte) (k : Fin 8) :
    setBit (lowBits b k.val) k.val (b.getLsbD k.val) = lowBits b (k.val + 1) := by
  refine BitVec.eq_of_getLsbD_eq fun j hj => ?_
  rw [setBit_getLsbD _ k _ j hj]
  simp only [lowBits, BitVec.getLsbD_setWidth, hj, decide_true, Bool.true_and]
  split
  · next hjk => simp [hjk]
  · next hjk => congr 1; exact decide_eq_decide.mpr (by omega)

/-- A character's bits before the stop bit (R100). -/
theorem characterBits_dropLast (b : Byte) :
    (characterBits b).dropLast = false :: (List.range 8).map b.getLsbD := rfl

section
variable {s : State} (hp : s.txBitpos = none) (hb : s.txb = []) (hr : s.rxBitpos = none)
  (hl : s.prevL = true)
include hp hb hr hl

/-- The start bit and the first `n` data bits leave those bits in rx_shift and nothing in RXB. -/
theorem afterTicks_dataBits (b : Byte) {n : Nat} (hn : n ≤ 8) :
    ∃ l, afterTicks (onLine s.cfgInvSh (false :: (List.range n).map b.getLsbD)) s =
      .next (hearing (some (rxAt n)) (lowBits b n) l s) := by
  induction n with
  | zero =>
    refine ⟨false, ?_⟩
    have hnone : lowBits b 0 = 0x00#8 := by simp [lowBits, BitVec.of_length_zero]
    rw [hnone]
    exact afterTicks_single (exec_tick_startBit hp hb hr hl)
  | succ n ih =>
    obtain ⟨l, hpre⟩ := ih (by omega)
    have hbits : false :: (List.range (n + 1)).map b.getLsbD =
        (false :: (List.range n).map b.getLsbD) ++ [b.getLsbD n] := by simp [List.range_succ]
    have htick := exec_tick_dataBit (s := hearing (some (rxAt n)) (lowBits b n) l s) (k := ⟨n, hn⟩) hp hb
      (by simp [hearing, rxAt, Nat.lt_of_succ_le hn]) (b.getLsbD n)
    refine ⟨b.getLsbD n, ?_⟩
    have hnext : rxAt (n + 1) = rxNext ⟨n, hn⟩ := rfl
    rw [hearing_hearing] at htick
    rw [hbits, onLine_append, afterTicks_append hpre, hnext, ← setBit_lowBits b ⟨n, hn⟩]
    exact afterTicks_single htick

/-- The ten ticks of a character leave its byte, marked by its stop bit, to the push into RXB. -/
theorem afterTicks_character (b : Byte) (stop : Level) :
    afterTicks (onLine s.cfgInvSh ((characterBits b).dropLast ++ [stop])) s =
      .next (pushRxb { err := !stop, byte := b } (hearing none b stop s)) := by
  obtain ⟨l, hdata⟩ := afterTicks_dataBits hp hb hr hl b (le_refl 8)
  rw [lowBits_eight] at hdata
  have htick := exec_tick_stopBit (s := hearing (some (rxAt 8)) b l s) hp hb rfl stop
  rw [hearing_hearing] at htick
  rw [characterBits_dropLast, onLine_append, afterTicks_append hdata]
  exact afterTicks_single htick

end

/-- Settles O27: the push into RXB keeps the byte or counts one overrun, and touches nothing else. -/
theorem tenTicksReceiveACharacter : Obligations.TenTicksReceiveACharacter := by
  intro s b stop hp hb hr hl
  refine ⟨_, afterTicks_character hp hb hr hl b stop, ?_⟩
  rcases pushRxb_cases { err := !stop, byte := b } (hearing none b stop s) with
    ⟨hroom, heq⟩ | ⟨hfull, heq⟩ <;> rw [heq]
  · exact ⟨rfl, hp, hb, rfl, rfl, rfl, rfl, rfl, fun _ => ⟨rfl, rfl⟩,
      fun hfull => absurd hroom (Nat.not_lt.mpr hfull)⟩
  · exact ⟨rfl, hp, hb, rfl, rfl, rfl, rfl, rfl, fun hroom => absurd hroom (Nat.not_lt.mpr hfull),
      fun _ => ⟨rfl, rfl⟩⟩

/-- Settles O28, by induction on the bytes: each character leaves the receive path as it found it. -/
theorem frameOnTheLineFillsTheRing : Obligations.FrameOnTheLineFillsTheRing := by
  intro s f
  induction f generalizing s with
  | nil =>
    intro _ _ hr hl _
    exact ⟨s, rfl, by simp [goodEntries], hr, hl, rfl⟩
  | cons b rest ih =>
    intro hp hb hr hl hroom
    rw [List.length_cons] at hroom
    obtain ⟨t, hchar, hr', hp', hb', hl', hinv, hparams, -, -, hkept, -⟩ :=
      tenTicksReceiveACharacter s b true hp hb hr hl
    obtain ⟨hrxb, hcnt⟩ := hkept (by omega)
    obtain ⟨u, hrest, hrxb', hr'', hl'', hcnt'⟩ :=
      ih t hp' hb' hr' hl' (by rw [hrxb, hparams, List.length_append, List.length_singleton]; omega)
    have hbits : bitsOf (b :: rest) = ((characterBits b).dropLast ++ [true]) ++ bitsOf rest := rfl
    refine ⟨u, ?_, ?_, hr'', hl'', hcnt'.trans hcnt⟩
    · rw [hbits, onLine_append, afterTicks_append hchar, ← hinv, hrest]
    · rw [hrxb', hrxb, List.append_assoc]; rfl

end Sys2Proof.Machine
end

section
/-! What every tick leaves (R141, R150, R152): each part of a tick writes only the timer context's elements. -/

namespace Sys2Proof.Machine

/-! ### The timer context's elements -/

/-- The state with every element blanked that the parts of a tick after its latch can write (R323). -/
def outsideTick (s : State) : State :=
  { s with
    lineState := .idle, txBitpos := none, txByte := 0x00#8, rxBitpos := none, rxShift := 0x00#8
    prevL := false, drive := false, idleCount := 0#16, lastEvent := .msg, backoffR := 0#16, draws := 0
    txOutcome := .none, carrierSeen := false, txb := [], rxb := []
    cnt := { s.cnt with collision := 0#16, rxOverrun := 0#16 } }

/-- `r` with the elements that a tick can write taken from `t`. -/
def withTickOf (t r : State) : State :=
  { r with
    cfgInv := t.cfgInv, speedSel := t.speedSel, lineState := t.lineState, txBitpos := t.txBitpos
    txByte := t.txByte, rxBitpos := t.rxBitpos, rxShift := t.rxShift, prevL := t.prevL, drive := t.drive
    idleCount := t.idleCount, lastEvent := t.lastEvent, backoffR := t.backoffR, draws := t.draws
    txOutcome := t.txOutcome, carrierSeen := t.carrierSeen, txb := t.txb, rxb := t.rxb, cnt := t.cnt }

section
variable {s t : State} (h : outsideTick t = outsideTick (latchConfig s))
include h

theorem eq_withTickOf : t = withTickOf t s := by
  have heq : withTickOf t (outsideTick t) = withTickOf t (outsideTick (latchConfig s)) := by rw [h]
  exact heq

theorem cnt_of_outsideTick :
    t.cnt = { s.cnt with collision := t.cnt.collision, rxOverrun := t.cnt.rxOverrun } :=
  congrArg (fun r : State =>
    { r.cnt with collision := t.cnt.collision, rxOverrun := t.cnt.rxOverrun }) h

end

/-! ### The parts of a tick -/

section
variable (s : State)

@[simp] theorem outsideTick_endCollision : outsideTick (endCollision s) = outsideTick s := by
  rw [endCollision_frame]; rfl

@[simp] theorem outsideTick_frameStart (av : Availability) :
    outsideTick (frameStart av s) = outsideTick s := by
  rcases frameStart_cases av s with ⟨b, rest, -, -, -, heq⟩ | ⟨-, heq⟩ <;> rw [heq]; rfl

@[simp] theorem outsideTick_txAdvance (p : TxBit) : outsideTick (txAdvance p s) = outsideTick s := by
  rcases txAdvance_cases p s with ⟨q, -, -, heq⟩ | ⟨b, rest, -, -, heq⟩ | ⟨-, -, heq⟩ <;> rw [heq] <;> rfl

@[simp] theorem outsideTick_transmit (p : TxBit) (l : Level) :
    outsideTick (transmit p l s) = outsideTick s := by
  rcases transmit_cases p l s with ⟨-, heq⟩ | ⟨-, heq⟩ <;> rw [heq]
  · rw [outsideTick_txAdvance]; rfl
  · rfl

@[simp] theorem outsideTick_pushRxb (e : RxEntry) : outsideTick (pushRxb e s) = outsideTick s := by
  rcases pushRxb_cases e s with ⟨-, heq⟩ | ⟨-, heq⟩ <;> rw [heq] <;> rfl

@[simp] theorem outsideTick_receive (l : Level) : outsideTick (receive l s) = outsideTick s := by
  rcases receive_cases l s with ⟨-, -, -, heq⟩ | ⟨-, -, heq⟩ | ⟨k, -, heq⟩ | ⟨-, heq⟩ <;> rw [heq]
  · rfl
  · rfl
  · rfl
  · exact outsideTick_pushRxb { s with drive := !s.cfgInv } _

@[simp] theorem outsideTick_endTick (l : Level) (active : Bool) :
    outsideTick (endTick l active s) = outsideTick s := by
  rw [endTick_frame]; rfl

/-- After the latch a tick writes nothing else. -/
theorem outsideTick_tickStep (x : Level) :
    outsideTick (tickStep x s) = outsideTick (latchConfig s) := by
  rcases tickStep_cases x s with ⟨p, -, heq⟩ | ⟨-, -, heq⟩ <;> rw [heq] <;> simp

theorem tickStep_prevL (x : Level) : (tickStep x s).prevL = xor x s.cfgInvSh := by
  rcases tickStep_cases x s with ⟨p, -, heq⟩ | ⟨-, -, heq⟩ <;> rw [heq, endTick_frame]

end

/-- Settles O20: the latch, and then only parts that stay within the timer context's elements. -/
theorem tickLatchesAndKeepsTheRest : Obligations.TickLatchesAndKeepsTheRest := by
  intro x s
  have hrest := outsideTick_tickStep s x
  exact ⟨tickStep x s, rfl, congrArg State.cfgInv hrest, congrArg State.speedSel hrest,
    tickStep_prevL s x, cnt_of_outsideTick hrest, eq_withTickOf hrest⟩

/-! ### Active ticks -/

/-- A character under way, or a frame that may start, makes a tick of the transmit branch (R142, R143). -/
theorem tickStep_sending {s : State} (x : Level)
    (h : s.txBitpos ≠ none ∨ (s.txb ≠ [] ∧ avail s = .netAvailable)) :
    ∃ u, tickStep x s = endTick (xor x s.cfgInvSh) true u := by
  rcases tickStep_cases x s with ⟨p, -, heq⟩ | ⟨hp, hstart, -⟩
  · exact ⟨_, heq⟩
  · obtain ⟨hb, hav⟩ := h.resolve_left (not_not.mpr hp)
    obtain ⟨c, rest, hb⟩ := List.exists_cons_of_ne_nil hb
    have hbits := congrArg State.txBitpos hstart
    simp [endCollision_frame, frameStart, hp, hb, hav] at hbits

theorem receiveActive_iff {l : Level} {s : State} :
    receiveActive l s = true ↔ s.rxBitpos ≠ none ∨ l = false := by
  simp [receiveActive, Option.isSome_iff_ne_none]

theorem idleCount_endTick_receive (l : Level) (active : Bool) (s : State) :
    (endTick l active (receive l s)).idleCount = if active then 0#16 else satSucc s.idleCount := by
  rw [endTick_frame, receive_frame]

theorem carrierSeen_endTick_receive (l : Level) (active : Bool) (s : State) :
    (endTick l active (receive l s)).carrierSeen = (active || s.carrierSeen) := by
  rw [endTick_frame, receive_frame]

/-- Settles O25: the transmit branch is always active, the receive branch where `receiveActive` says so. -/
theorem idleCounterCountsInactiveTicks : Obligations.IdleCounterCountsInactiveTicks := by
  intro x s
  by_cases hsend : s.txBitpos ≠ none ∨ (s.txb ≠ [] ∧ avail s = .netAvailable)
  · obtain ⟨u, heq⟩ := tickStep_sending x hsend
    refine ⟨_, congrArg Host.Outcome.next heq, fun _ => ?_, fun hp hwait => absurd hsend ?_⟩
    · rw [endTick_frame]; exact ⟨rfl, rfl⟩
    · tauto
  · obtain ⟨hp, hwait⟩ : s.txBitpos = none ∧ (s.txb = [] ∨ avail s ≠ .netAvailable) := by tauto
    refine ⟨_, exec_tick_receive s x hp hwait, fun hact => ?_, fun _ _ hr hx => ?_⟩
    · have hactive : receiveActive (xor x s.cfgInvSh) (endCollision (latchConfig s)) = true := by
        simp only [receiveActive_iff, endCollision_rxBitpos, latchConfig_rxBitpos, bne_eq_false_iff_eq]
        tauto
      rw [idleCount_endTick_receive, carrierSeen_endTick_receive, hactive]
      exact ⟨rfl, rfl⟩
    · have hidle : receiveActive (xor x s.cfgInvSh) (endCollision (latchConfig s)) = false := by
        simp [receiveActive, hr, hx]
      rw [idleCount_endTick_receive, carrierSeen_endTick_receive, hidle, endCollision_frame]
      exact ⟨rfl, rfl⟩

end Sys2Proof.Machine
end

section
/-! The receive branch (R142, R146 to R149, R151): a tick that has nothing to send, or not yet the bus. -/

namespace Sys2Proof.Machine

section
variable {s : State} (hp : s.txBitpos = none) (hwait : s.txb = [] ∨ avail s ≠ .netAvailable)
include hp hwait

/-- The receive branch releases the line and leaves the transmitter, but for a collision of the tick before
(R149, R151). -/
theorem exec_tick_released (x : Level) :
    ∃ t, exec (.tick x) s = .next t ∧ t.drive = !s.cfgInvSh ∧
      t.lineState = (if s.lineState = .collisionDetected then .idle else s.lineState) ∧
      t.txBitpos = none ∧ t.txb = s.txb ∧ t.txOutcome = s.txOutcome ∧ t.lastEvent = s.lastEvent := by
  refine ⟨_, exec_tick_receive s x hp hwait, ?_⟩
  rw [endTick_frame, receive_frame, endCollision_frame]
  exact ⟨rfl, rfl, hp, rfl, rfl, rfl⟩

/-- The receive branch hears its logical sample. -/
theorem exec_tick_waiting (l : Level) :
    exec (.tick (xor l s.cfgInvSh)) s =
      .next (endTick l (receiveActive l (endCollision (latchConfig s)))
        (receive l (endCollision (latchConfig s)))) := by
  have hsample : xor (xor l s.cfgInvSh) s.cfgInvSh = l := by simp
  rw [exec_tick_receive s _ hp hwait, hsample]

/-- R146: a mark followed by a space starts a character. -/
theorem exec_tick_startEdge (hr : s.rxBitpos = none) (hl : s.prevL = true) :
    exec (.tick (xor false s.cfgInvSh)) s = .next (hearing (some (.data 0)) 0x00#8 false s) := by
  have hact : receiveActive false (endCollision (latchConfig s)) = true := by simp [receiveActive]
  rw [exec_tick_waiting hp hwait, hact, receive_of_idle (by simpa using hr), if_pos (by simpa using hl),
    endTick_listening]

/-- R146: with no start edge, a tick between characters only releases the line and counts, or clears, the
idle time (R150). -/
theorem exec_tick_noEdge {l : Level} (hr : s.rxBitpos = none) (hl : s.prevL = false ∨ l = true) :
    exec (.tick (xor l s.cfgInvSh)) s =
      .next { hearing s.rxBitpos s.rxShift l s with
        idleCount := if l then satSucc s.idleCount else 0#16
        carrierSeen := !l || s.carrierSeen } := by
  have hact : receiveActive l (endCollision (latchConfig s)) = !l := by simp [receiveActive, hr]
  have hedge : ¬ ((endCollision (latchConfig s)).prevL = true ∧ l = false) := by
    rcases hl with hl | hl <;> simp [hl]
  rw [exec_tick_waiting hp hwait, hact, receive_of_idle (by simpa using hr), if_neg hedge,
    endTick_frame, endCollision_frame]
  cases l <;> rfl

/-- R147: a sample inside a character is its next data bit. -/
theorem exec_tick_hearsBit {k : Fin 8} (hr : s.rxBitpos = some (.data k)) (l : Level) :
    exec (.tick (xor l s.cfgInvSh)) s =
      .next (hearing (some (rxNext k)) (setBit s.rxShift k.val l) l s) := by
  have hact : receiveActive l (endCollision (latchConfig s)) = true := by simp [receiveActive, hr]
  rw [exec_tick_waiting hp hwait, hact, receive_of_data (k := k) (by simpa using hr), endTick_listening,
    endCollision_rxShift, latchConfig_rxShift]

/-- R148: the stop bit ends the character, and its byte is pushed. -/
theorem exec_tick_hearsStop (hr : s.rxBitpos = some .stop) (l : Level) :
    exec (.tick (xor l s.cfgInvSh)) s =
      .next (pushRxb { err := !l, byte := s.rxShift } (hearing none s.rxShift l s)) := by
  have hact : receiveActive l (endCollision (latchConfig s)) = true := by simp [receiveActive, hr]
  rw [exec_tick_waiting hp hwait, hact, receive_of_stop (by simpa using hr), endTick_pushRxb,
    endTick_frame, endCollision_frame]
  rfl

end

/-- Settles O26: R151's reset of line_state, and a tick of the receive branch. -/
theorem collisionLastsOneTick : Obligations.CollisionLastsOneTick := by
  intro x s hc hp hb
  obtain ⟨t, htick, hdrive, hline, hp', -, ho, he⟩ := exec_tick_released hp (.inl hb) x
  exact ⟨t, htick, by rw [hline, if_pos hc], hp', hdrive, ho, he⟩

theorem hearing_eq (q : Option RxBit) (v : Byte) (l : Level) (s : State) :
    hearing q v l s = { s with
      cfgInv := s.cfgInvSh, speedSel := s.cfgSpeedSh, drive := !s.cfgInvSh, prevL := l
      lineState := if s.lineState = .collisionDetected then .idle else s.lineState
      idleCount := 0#16, carrierSeen := true, rxBitpos := q, rxShift := v } := by
  simp only [hearing, Bool.true_xor]

/-- Settles O24: one rule for each position of the receive path, the push into RXB with its two cases. -/
theorem tickReceivesTheNextBit : Obligations.TickReceivesTheNextBit := by
  intro s l hp hwait heard
  refine ⟨fun hr hl hs => ?_, fun hr hl hs => ?_, fun hr hm => ?_, fun k hr => ?_, fun hr hroom => ?_,
    fun hr hfull => ?_⟩
  · rw [hs, exec_tick_startEdge hp hwait hr hl, hearing_eq]
    simp only [heard, hs]
  · rw [exec_tick_noEdge hp hwait hr (.inl hl), hearing_eq]
    simp only [heard, hs]; rfl
  · rw [exec_tick_noEdge hp hwait hr (.inr hm), hearing_eq]
    simp only [heard, hm]; rfl
  · refine ⟨_, _, rxNext_number k, fun j hj => setBit_getLsbD s.rxShift k l j hj, ?_⟩
    rw [exec_tick_hearsBit hp hwait hr, hearing_eq]
  · rw [exec_tick_hearsStop hp hwait hr, hearing_eq]
    exact congrArg Host.Outcome.next (if_pos hroom)
  · rw [exec_tick_hearsStop hp hwait hr, hearing_eq]
    exact congrArg Host.Outcome.next (if_neg (Nat.not_lt.mpr hfull))

/-! ### A line held at space -/

section
variable {s : State} (hp : s.txBitpos = none) (hb : s.txb = []) (hr : s.rxBitpos = none)
  (hl : s.prevL = false)
include hp hb hr hl

theorem exec_tick_heldSpace : exec (.tick s.cfgInvSh) s = .next (hearing none s.rxShift false s) := by
  have htick := exec_tick_noEdge hp (.inl hb) (l := false) hr (.inl hl)
  rw [Bool.false_xor, hr] at htick
  exact htick

/-- Further spaces find the line as the first one left it. -/
theorem afterTicks_heldSpace (n : Nat) :
    afterTicks (List.replicate (n + 1) s.cfgInvSh) s = .next (hearing none s.rxShift false s) := by
  induction n with
  | zero => exact afterTicks_single (exec_tick_heldSpace hp hb hr hl)
  | succ n ih =>
    have hagain := exec_tick_heldSpace (s := hearing none s.rxShift false s) hp hb rfl rfl
    rw [hearing_hearing] at hagain
    rw [List.replicate_succ', afterTicks_append ih]
    exact afterTicks_single hagain

end

/-- After activity the bus is Busy for GAP_MIN ticks (R210). -/
theorem avail_of_idleCount_zero {s : State} (hgap : 1 ≤ s.params.gapMin) (hi : s.idleCount = 0#16) :
    avail s = .busy := by
  have hbusy : s.idleCount.toNat < s.params.gapMin := by rw [hi]; exact hgap
  rw [avail, if_pos hbusy, ite_self]

/-- Settles O31: no start edge, and every tick of the space is activity. -/
theorem heldSpaceProducesNothing : Obligations.HeldSpaceProducesNothing := by
  intro s n hgap hp hb hr hl
  exact ⟨_, afterTicks_heldSpace hp hb hr hl n, rfl, avail_of_idleCount_zero hgap rfl, rfl, rfl, rfl⟩

end Sys2Proof.Machine
end

section
/-! The transmit branch (R142 to R145, R149): a frame's start, a tick that samples the bit it drives and one
that does not. -/

namespace Sys2Proof.Machine

/-! ### The ticks of a character under way -/

/-- What every tick of the transmit branch leaves before it looks for a collision (R141, R149, R150, R152),
with bit `b` driven and logical sample `l`. -/
def driving (b l : Level) (s : State) : State :=
  { s with
    cfgInv := s.cfgInvSh, speedSel := s.cfgSpeedSh, drive := xor b s.cfgInvSh, prevL := l
    idleCount := 0#16, carrierSeen := true }

/-- The end of an active tick touches nothing that the advance to the next bit reads or writes. -/
theorem endTick_txAdvance (l : Level) (p : TxBit) (s : State) :
    endTick l true (txAdvance p s) = txAdvance p (endTick l true s) := by
  cases p with
  | start => rfl
  | data k => rw [txAdvance, txAdvance, apply_dite (endTick l true)]; rfl
  | stop =>
    have htxb : (endTick l true s).txb = s.txb := rfl
    cases hb : s.txb <;> simp only [txAdvance, htxb, hb] <;> rfl

theorem endTick_driveBit_latchConfig (b l : Level) (s : State) :
    endTick l true (driveBit b (latchConfig s)) = driving b l s := rfl

section
variable {s : State} {p : TxBit} (hl : s.lineState = .transmitting) (hp : s.txBitpos = some p)
include hl hp

/-- R145: the sample is the driven bit, and the transmission advances. -/
theorem exec_tick_agrees {b : Level} (hb : b = txLevel s.txByte p) :
    exec (.tick (xor b s.cfgInvSh)) s = .next (txAdvance p (driving b b s)) := by
  have hsample : xor (xor b s.cfgInvSh) s.cfgInvSh = b := by simp
  have hlevel : b = txLevel (latchConfig s).txByte p := hb
  rw [exec_tick_transmit s p _ hl hp, hsample, transmit_eq_driveBit, if_pos hlevel, ← hlevel,
    endTick_txAdvance, endTick_driveBit_latchConfig]

/-- R144: the sample is not the driven bit, and the transmission ends as a collision. -/
theorem exec_tick_mismatch {b : Level} (hb : b = txLevel s.txByte p) :
    exec (.tick (xor (!b) s.cfgInvSh)) s = .next (collide (driving b (!b) s)) := by
  have hsample : xor (xor (!b) s.cfgInvSh) s.cfgInvSh = !b := by simp
  have hlevel : b = txLevel (latchConfig s).txByte p := hb
  rw [exec_tick_transmit s p _ hl hp, hsample, transmit_eq_driveBit, ← hlevel, if_neg (by simp)]
  rfl

end

/-- Settles O21: `txAdvance` at each bit position. -/
theorem tickSendsTheNextBit : Obligations.TickSendsTheNextBit := by
  intro s b hl sent
  refine ⟨fun hp hb => ?_, fun k hp hb => ?_, fun c rest hp hb htxb => ?_, fun hp hb htxb => ?_⟩
  · exact exec_tick_agrees hl hp hb
  · rw [exec_tick_agrees hl hp hb]
    rcases txAdvance_cases (.data k) (driving b b s) with
      ⟨q, -, hq, heq⟩ | ⟨_, _, hstop, -, -⟩ | ⟨hstop, -, -⟩
    · exact ⟨q, by rw [hq, txBitNumber]; omega, by rw [heq]; rfl⟩
    · cases hstop
    · cases hstop
  · have htxb' : (driving b b s).txb = c :: rest := htxb
    rw [exec_tick_agrees hl hp hb]
    simp only [txAdvance, htxb']; rfl
  · have htxb' : (driving b b s).txb = [] := htxb
    rw [exec_tick_agrees hl hp hb]
    simp only [txAdvance, htxb']; rfl

/-- Settles O22: the collision detector's writes, and a tick of the receive branch after them. -/
theorem mismatchIsACollision : Obligations.MismatchIsACollision := by
  intro s p hl hp b t
  have hb : b = txLevel s.txByte p := by cases p <;> rfl
  refine ⟨?_, fun x => ?_⟩
  · have htick := exec_tick_mismatch hl hp hb
    rw [Bool.not_xor] at htick
    exact htick
  · obtain ⟨u, htick, hdrive, -⟩ := exec_tick_released (s := t) rfl (.inl rfl) x
    exact ⟨u, htick, hdrive⟩

/-! ### The start of a frame -/

/-- A frame's first byte `c` at its start bit, the rest of the frame waiting (R143). -/
def started (c : Byte) (rest : Frame) (s : State) : State :=
  { s with txByte := c, txb := rest, txBitpos := some .start, lineState := .transmitting }

/-- The bus is available only when the line is idle (R210). -/
theorem lineState_of_avail {s : State} (h : avail s = .netAvailable) : s.lineState = .idle := by
  unfold avail at h
  split at h
  · cases h
  · next hidle => exact not_not.mp fun hl => hidle (.inl hl)

section
variable {s : State} {c : Byte} {rest : Frame} (hp : s.txBitpos = none) (hb : s.txb = c :: rest)
  (hav : avail s = .netAvailable)
include hp hb hav

/-- A frame that waits for the available bus is sent as if its start bit had been under way already. -/
theorem exec_tick_started (x : Level) : exec (.tick x) s = exec (.tick x) (started c rest s) := by
  have hidle := lineState_of_avail hav
  have hstart : frameStart (avail (latchConfig s)) (endCollision (latchConfig s)) =
      latchConfig (started c rest s) := by
    have hend : endCollision (latchConfig s) = latchConfig s := by simp [endCollision, hidle]
    rw [hend, avail_latchConfig, hav]
    simp [frameStart, hp, hb]; rfl
  rw [exec_tick_transmit (started c rest s) .start x rfl rfl]
  simp only [exec, execTick, tickStep, hstart]
  rfl

theorem afterTicks_started {xs : List Level} (hxs : xs ≠ []) :
    afterTicks xs s = afterTicks xs (started c rest s) := by
  obtain ⟨x, xs, rfl⟩ := List.exists_cons_of_ne_nil hxs
  simp only [afterTicks, exec_tick_started hp hb hav x]

end

/-- Settles O23: the starting tick is the tick of the start bit; without the bus it is one of the receive
branch. -/
theorem frameStartsWhenTheBusIsAvailable : Obligations.FrameStartsWhenTheBusIsAvailable := by
  intro s c rest hp hb
  refine ⟨fun hav => ⟨?_, ?_⟩, fun hav x => ?_⟩
  · have htick := exec_tick_agrees (s := started c rest s) (p := .start) rfl rfl (b := false) rfl
    simp only [driving, Bool.false_xor] at htick
    rw [exec_tick_started hp hb hav]
    exact htick
  · have htick := exec_tick_mismatch (s := started c rest s) (p := .start) rfl rfl (b := false) rfl
    simp only [driving, Bool.false_xor, Bool.true_xor, Bool.not_false] at htick
    rw [exec_tick_started hp hb hav]
    exact htick
  · obtain ⟨t, htick, hdrive, -, hp', hb', ho, -⟩ := exec_tick_released hp (.inr hav) x
    exact ⟨t, htick, hp', hb', ho, hdrive⟩

end Sys2Proof.Machine
end

section
/-! The timeline of a frame (R153): the bits still to be sent, what each tick takes from them, and the ticks up
to any offset. -/

namespace Sys2Proof.Machine

/-! ### The bits still to be sent -/

/-- From the bit under way on, the bits of its character and of the characters in TXB; none between frames. -/
def bitsLeft (s : State) : List Level :=
  match s.txBitpos with
  | some p => (characterBits s.txByte).drop (txBitNumber p) ++ bitsOf s.txb
  | none => []

theorem length_bitsOf (f : Frame) : (bitsOf f).length = 10 * f.length := by
  induction f with
  | nil => rfl
  | cons c rest ih =>
    have hcons : bitsOf (c :: rest) = characterBits c ++ bitsOf rest := rfl
    have hchar : (characterBits c).length = 10 := rfl
    rw [hcons, List.length_append, hchar, ih, List.length_cons]; omega

/-- The level driven at a bit position is the character's bit of that number (R39, R100). -/
theorem drop_characterBits (c : Byte) (p : TxBit) :
    (characterBits c).drop (txBitNumber p) =
      txLevel c p :: (characterBits c).drop (txBitNumber p + 1) := by
  cases p with
  | start => rfl
  | data k => fin_cases k <;> rfl
  | stop => rfl

/-- The bit under way is the first of those left, and the advance leaves the others. -/
theorem bitsLeft_txAdvance {s : State} {p : TxBit} (hp : s.txBitpos = some p) :
    bitsLeft s = txLevel s.txByte p :: bitsLeft (txAdvance p s) := by
  have hleft : bitsLeft s = (characterBits s.txByte).drop (txBitNumber p) ++ bitsOf s.txb := by
    simp only [bitsLeft, hp]
  rw [hleft, drop_characterBits, List.cons_append]
  rcases txAdvance_cases p s with ⟨q, -, hq, heq⟩ | ⟨c, rest, rfl, hb, heq⟩ | ⟨rfl, hb, heq⟩ <;> rw [heq]
  · simp only [bitsLeft, hq]
  · rw [hb]; rfl
  · rw [hb]; rfl

theorem txBitpos_of_bitsLeft {s : State} (h : bitsLeft s ≠ []) : ∃ p, s.txBitpos = some p := by
  cases hp : s.txBitpos with
  | none => exact absurd (by simp only [bitsLeft, hp]) h
  | some p => exact ⟨p, rfl⟩

theorem bitsLeft_of_txBitpos {s : State} {p : TxBit} (h : s.txBitpos = some p) : bitsLeft s ≠ [] := by
  rw [bitsLeft_txAdvance h]; exact List.cons_ne_nil _ _

/-! ### One tick of a frame -/

/-- `t` sends a frame that began in `s`: `bits` of it are left, and what the frame's end or a collision would
change is as in `s`. -/
structure Sending (s : State) (bits : List Level) (t : State) : Prop where
  left : bitsLeft t = bits
  line : t.lineState = .transmitting
  outcome : t.txOutcome = s.txOutcome
  polarity : t.cfgInvSh = s.cfgInvSh
  counters : t.cnt = s.cnt
  slot : t.inflight = s.inflight
  received : t.rxb = s.rxb

section
variable {s t : State} {b : Level} {bits : List Level}

theorem Sending.driving (h : Sending s bits t) (b l : Level) : Sending s bits (driving b l t) :=
  { h with }

theorem Sending.txBitpos_ne_none (h : Sending s bits t) (hmore : bits ≠ []) : t.txBitpos ≠ none := by
  obtain ⟨p, hp⟩ := txBitpos_of_bitsLeft (s := t) (by rwa [h.left])
  simp [hp]

/-- The first bit left is the one the next tick drives. -/
theorem Sending.level (h : Sending s (b :: bits) t) :
    ∃ p, t.txBitpos = some p ∧ b = txLevel t.txByte p ∧ bitsLeft (txAdvance p t) = bits := by
  obtain ⟨p, hp⟩ := txBitpos_of_bitsLeft (s := t) (by rw [h.left]; exact List.cons_ne_nil _ _)
  have hcons := h.left
  rw [bitsLeft_txAdvance hp, List.cons.injEq] at hcons
  obtain ⟨hb, hbits⟩ := hcons
  exact ⟨p, hp, hb.symm, hbits⟩

/-- Before the last bit an echoed tick leaves the frame one bit shorter (R145). -/
theorem Sending.echo (h : Sending s (b :: bits) t) (hmore : bits ≠ []) :
    ∃ u, exec (.tick (xor b s.cfgInvSh)) t = .next u ∧ Sending s bits u ∧ u.drive = xor b s.cfgInvSh := by
  have hd := h.driving b b
  obtain ⟨p, hp, hb, hbits⟩ := hd.level
  have htick := exec_tick_agrees h.line hp hb
  rw [h.polarity] at htick
  refine ⟨_, htick, ?_⟩
  rcases txAdvance_cases p (Machine.driving b b t) with
    ⟨q, -, -, heq⟩ | ⟨c, rest, -, -, heq⟩ | ⟨-, -, heq⟩ <;> rw [heq] at hbits ⊢
  · exact ⟨{ hd with left := hbits }, congrArg (xor b) h.polarity⟩
  · exact ⟨{ hd with left := hbits }, congrArg (xor b) h.polarity⟩
  · exact absurd hbits.symm hmore

/-- The last bit's echoed tick ends the frame (R145). -/
theorem Sending.echo_last (h : Sending s [b] t) :
    ∃ u, exec (.tick (xor b s.cfgInvSh)) t = .next u ∧ u.drive = xor b s.cfgInvSh ∧
      u.lineState = .idle ∧ u.txBitpos = none ∧ u.txb = [] ∧ u.txOutcome = .done ∧ u.lastEvent = .msg ∧
      u.idleCount = 0#16 := by
  obtain ⟨p, hp, hb, hbits⟩ := (h.driving b b).level
  have htick := exec_tick_agrees h.line hp hb
  rw [h.polarity] at htick
  refine ⟨_, htick, ?_⟩
  rcases txAdvance_cases p (Machine.driving b b t) with
    ⟨q, -, -, heq⟩ | ⟨c, rest, -, -, heq⟩ | ⟨-, htxb, heq⟩ <;> rw [heq] at hbits ⊢
  · exact absurd hbits (bitsLeft_of_txBitpos rfl)
  · exact absurd hbits (bitsLeft_of_txBitpos rfl)
  · exact ⟨congrArg (xor b) h.polarity, rfl, rfl, htxb, rfl, rfl, rfl⟩

/-- A flipped bit ends the frame in its tick (R144). -/
theorem Sending.flip (h : Sending s (b :: bits) t) :
    ∃ u, exec (.tick (xor (!b) s.cfgInvSh)) t = .next u ∧ u.lineState = .collisionDetected ∧
      u.txBitpos = none ∧ u.txb = [] ∧ u.txOutcome = .collided ∧ u.lastEvent = .collision ∧
      u.drive = xor b s.cfgInvSh ∧ u.cnt = { s.cnt with collision := s.cnt.collision + 1#16 } ∧
      u.inflight = s.inflight ∧ u.rxb = s.rxb := by
  obtain ⟨p, hp, hb, -⟩ := h.level
  have htick := exec_tick_mismatch h.line hp hb
  rw [h.polarity] at htick
  exact ⟨_, htick, rfl, rfl, rfl, rfl, rfl, congrArg (xor b) h.polarity,
    congrArg (fun n : Counters => { n with collision := n.collision + 1#16 }) h.counters, h.slot,
    h.received⟩

end

/-! ### The ticks up to an offset -/

/-- Echoing the first `k` bits of those left leaves the others (R145). -/
theorem Sending.afterTicks_take {s t : State} {bits : List Level} (h : Sending s bits t) {k : Nat}
    (hk : k < bits.length) :
    ∃ u, afterTicks (onLine s.cfgInvSh (bits.take k)) t = .next u ∧ Sending s (bits.drop k) u := by
  induction k generalizing bits t with
  | zero => exact ⟨t, rfl, h⟩
  | succ k ih =>
    cases bits with
    | nil => cases hk
    | cons b rest =>
      have hk' : k < rest.length := Nat.lt_of_succ_lt_succ hk
      obtain ⟨u, htick, hsend, -⟩ := h.echo (List.ne_nil_of_length_pos (Nat.zero_lt_of_lt hk'))
      obtain ⟨v, hrun, hsend⟩ := ih hsend hk'
      have hfirst := afterTicks_single htick
      exact ⟨v, (afterTicks_append hfirst _).trans hrun, hsend⟩

theorem sending_started {s : State} {c : Byte} {rest : Frame} (hb : s.txb = c :: rest) :
    Sending s (bitsOf s.txb) (started c rest s) where
  left := by rw [hb]; rfl
  line := rfl
  outcome := rfl
  polarity := rfl
  counters := rfl
  slot := rfl
  received := rfl

/-- The ticks of a waiting frame up to offset `k` leave its `k`-th bit to the tick at `k`, whatever that one
samples: the first of them starts the frame (R143). -/
theorem afterTicks_frame {s : State} {k : Nat} {bit : Level} (hp : s.txBitpos = none)
    (hav : avail s = .netAvailable) (hbit : (bitsOf s.txb)[k]? = some bit) (l : Level) :
    ∃ t, Sending s (bit :: (bitsOf s.txb).drop (k + 1)) t ∧
      afterTicks (onLine s.cfgInvSh ((bitsOf s.txb).take k ++ [l])) s =
        exec (.tick (xor l s.cfgInvSh)) t := by
  obtain ⟨hk, hget⟩ := List.getElem?_eq_some_iff.mp hbit
  have hne : s.txb ≠ [] := fun hb => by rw [hb] at hbit; cases hbit
  obtain ⟨c, rest, hb⟩ := List.exists_cons_of_ne_nil hne
  obtain ⟨t, hrun, hsend⟩ := (sending_started hb).afterTicks_take hk
  rw [List.drop_eq_getElem_cons hk, hget] at hsend
  refine ⟨t, hsend, ?_⟩
  rw [afterTicks_started hp hb hav (by simp [onLine]), onLine_append, afterTicks_append hrun]
  rfl

/-- Settles O29: the echoed tick at offset `k` is one before the last bit, or that of the last bit. -/
theorem frameTimeline : Obligations.FrameTimeline := by
  rintro s _ hp rfl - hav k hk
  have hlen := length_bitsOf s.txb
  obtain ⟨bit, hbit⟩ : ∃ bit, (bitsOf s.txb)[k]? = some bit :=
    ⟨_, List.getElem?_eq_getElem (hk.trans_eq hlen.symm)⟩
  have htake : (bitsOf s.txb).take (k + 1) = (bitsOf s.txb).take k ++ [bit] := by
    rw [List.take_add_one, hbit]; rfl
  obtain ⟨t, hsend, hrun⟩ := afterTicks_frame hp hav hbit bit
  rw [htake]
  by_cases hlast : k + 1 < 10 * s.txb.length
  · have hmore : (bitsOf s.txb).drop (k + 1) ≠ [] := by
      rw [ne_eq, List.drop_eq_nil_iff]; omega
    obtain ⟨u, htick, hu, hdrive⟩ := hsend.echo hmore
    exact ⟨u, bit, hbit, hrun.trans htick, hdrive,
      fun _ => ⟨hu.line, hu.txBitpos_ne_none hmore, hu.outcome⟩, fun hend => absurd hend hlast.ne⟩
  · rw [List.drop_eq_nil_of_le (by omega)] at hsend
    obtain ⟨u, htick, hdrive, hdone⟩ := hsend.echo_last
    exact ⟨u, bit, hbit, hrun.trans htick, hdrive, fun hmore => absurd hmore hlast, fun _ => hdone⟩

/-- Settles O30: the tick at offset `k` samples the flipped bit. -/
theorem collisionTimeline : Obligations.CollisionTimeline := by
  rintro s _ k bit hp rfl hav hbit
  obtain ⟨t, hsend, hrun⟩ := afterTicks_frame hp hav hbit (!bit)
  obtain ⟨u, htick, hcollision⟩ := hsend.flip
  exact ⟨u, hrun.trans htick, hcollision⟩

end Sys2Proof.Machine
end

section
/-! What the codec answers: the length class of every byte (R170), decoding an encoded frame (R178), and
which corruptions of a frame its check byte detects (R179). -/

namespace Sys2Proof.Machine

/-! ### The length class -/

/-- Bit 7 parts the opcodes from the data bytes (R102), here as a bound. -/
theorem getLsbD_seven_iff {b : Byte} : b.getLsbD 7 = true ↔ 0x80 ≤ b.toNat := by
  rw [← BitVec.msb_eq_getLsbD_last b, BitVec.msb_eq_decide, decide_eq_true_iff]

/-- An opcode's class number counts the bands of 32 above 0x80 (R103). -/
theorem toNat_lengthBits (b : Byte) : (b.extractLsb' 5 2).toNat = b.toNat / 32 % 4 := by
  rw [BitVec.extractLsb'_toNat, Nat.shiftRight_eq_div_pow]

/-- Settles O12: a byte below 0x80 is no opcode, and the band of an opcode is its class. -/
theorem lengthClassOfEveryByte : Obligations.LengthClassOfEveryByte := by
  intro b
  have hb : b.toNat < 256 := b.isLt
  by_cases hdata : b.toNat < 0x80
  · rw [if_pos hdata, decodeLength_eq_notOpcode, ← Bool.not_eq_true, getLsbD_seven_iff]
    omega
  · rw [if_neg hdata, decodeLength, if_pos (getLsbD_seven_iff.mpr (by omega)), toNat_lengthBits]
    split_ifs with hA hC hE
    · simp only [show b.toNat / 32 % 4 = 0 by omega]
    · simp only [show b.toNat / 32 % 4 = 1 by omega]
    · simp only [show b.toNat / 32 % 4 = 2 by omega]
    · simp only [show b.toNat / 32 % 4 = 3 by omega]

/-! ### The round trip -/

theorem dropLast_encodeFrame (body : Frame) : (encodeFrame body).dropLast = body :=
  List.dropLast_concat

theorem decodeFrame_eq_some {maxFrame : Nat} {f : Frame} (hshape : shapeOK maxFrame f = true)
    (hvalid : valid f = true) : decodeFrame maxFrame f = some f.dropLast := by
  rw [decodeFrame, hshape, hvalid]; rfl

/-- Settles O10: the encoded frame has the shape that the body check asks for, its check byte makes it valid,
and decoding takes that byte off again. -/
theorem frameRoundTrip : Obligations.FrameRoundTrip := by
  intro maxFrame body hbody
  obtain ⟨hlen, -, hshape⟩ := wellFormedBody_iff.mp hbody
  rw [decodeFrame_eq_some hshape (valid_encodeFrame hlen), dropLast_encodeFrame]

/-! ### Corrupted frames -/

theorem valid_iff {f : Frame} : valid f = true ↔ 2 ≤ f.length ∧ xorAcc f = 0xFF#8 := by
  simp [valid]

/-- Against a valid frame of its length, a frame is judged by its XOR alone. -/
theorem valid_iff_xorAcc_eq {f g : Frame} (hf : valid f = true) (hlen : g.length = f.length) :
    valid g = true ↔ xorAcc g = xorAcc f := by
  obtain ⟨htwo, hxor⟩ := valid_iff.mp hf
  rw [valid_iff, hlen, hxor, and_iff_right htwo]

/-- A byte's difference is the difference of the XOR. -/
theorem xorAcc_set {f : Frame} {i : Nat} {a : Byte} (h : f[i]? = some a) (delta : Byte) :
    xorAcc (f.set i (a ^^^ delta)) = xorAcc f ^^^ delta := by
  induction f generalizing i with
  | nil => cases h
  | cons b rest ih =>
    cases i with
    | zero =>
      cases h
      rw [List.set_cons_zero, xorAcc_cons, xorAcc_cons, BitVec.xor_assoc, BitVec.xor_comm delta,
        BitVec.xor_assoc]
    | succ i => rw [List.set_cons_succ, xorAcc_cons, xorAcc_cons, ih h, BitVec.xor_assoc]

/-- The XOR of the bytewise differences is the difference of the XORs. -/
theorem xorAcc_zipWith {f g : Frame} (hlen : g.length = f.length) :
    xorAcc (List.zipWith (· ^^^ ·) f g) = xorAcc f ^^^ xorAcc g := by
  induction f generalizing g with
  | nil => cases List.length_eq_zero_iff.mp hlen; rfl
  | cons a f ih =>
    cases g with
    | nil => cases hlen
    | cons b g =>
      rw [List.zipWith_cons_cons, xorAcc_cons, xorAcc_cons, xorAcc_cons, ih (Nat.succ.inj hlen)]
      ac_rfl

/-- One changed byte changes the XOR by a difference that is not 0. -/
theorem valid_set_eq_false {f : Frame} (hf : valid f = true) {i : Nat} {a b : Byte}
    (ha : f[i]? = some a) (hne : a ≠ b) : valid (f.set i b) = false := by
  have hb : a ^^^ (a ^^^ b) = b := by rw [← BitVec.xor_assoc, BitVec.xor_self, BitVec.zero_xor]
  have hset : xorAcc (f.set i b) = xorAcc f ^^^ (a ^^^ b) := by rw [← xorAcc_set ha, hb]
  rw [← Bool.not_eq_true, valid_iff_xorAcc_eq hf List.length_set, hset]
  intro hsame
  have hzero : a ^^^ b = 0#8 :=
    (BitVec.xor_right_inj (xorAcc f)).mp (hsame.trans BitVec.xor_zero.symm)
  exact hne (BitVec.xor_eq_zero_iff.mp hzero)

/-- The same difference in two places cancels in the XOR. -/
theorem valid_set_set {f : Frame} (hf : valid f = true) {i j : Nat} {a b : Byte} (hij : i ≠ j)
    (ha : f[i]? = some a) (hb : f[j]? = some b) (delta : Byte) :
    valid ((f.set i (a ^^^ delta)).set j (b ^^^ delta)) = true := by
  have hb' : (f.set i (a ^^^ delta))[j]? = some b := by rw [List.getElem?_set_ne hij, hb]
  rw [valid_iff_xorAcc_eq hf (by simp only [List.length_set]), xorAcc_set hb', xorAcc_set ha,
    BitVec.xor_assoc, BitVec.xor_self, BitVec.xor_zero]

/-- Settles O11: a frame of the same length is valid exactly when its XOR is that of the valid frame. -/
theorem singleByteCorruptionIsDetected : Obligations.SingleByteCorruptionIsDetected := by
  intro f hf
  refine ⟨fun i b hi hb => ?_, fun i j a b delta hij ha hb => valid_set_set hf hij ha hb delta,
    fun g hlen => ?_⟩
  · obtain ⟨a, ha⟩ := Option.ne_none_iff_exists'.mp hi
    exact valid_set_eq_false hf ha fun hab => hb (hab ▸ ha)
  · rw [valid_iff_xorAcc_eq hf hlen, xorAcc_zipWith hlen, BitVec.xor_eq_zero_iff, eq_comm]

end Sys2Proof.Machine
end

section
/-! The receive assembler on one entry of RXB (R190 to R197): its wire rows, an equation for each thing a data
byte can be, and all that a completed frame leaves. -/

namespace Sys2Proof.Machine

/-! ### The wire rows -/

/-- The code of a wire row stands below its class in the byte (R102, R103). -/
theorem codeOf_opcode_eq_ofNat (m : BitVec 5) :
    codeOf (.opcLen2 m) = BitVec.ofNat 8 (0x80 + m.toNat) ∧
    codeOf (.opcLen4 m) = BitVec.ofNat 8 (0xA0 + m.toNat) ∧
    codeOf (.opcLen6 m) = BitVec.ofNat 8 (0xC0 + m.toNat) ∧
    codeOf (.opcLenVar m) = BitVec.ofNat 8 (0xE0 + m.toNat) := by
  revert m; decide

theorem codeOf_data_eq_ofNat (v : BitVec 7) : codeOf (.data v) = BitVec.ofNat 8 v.toNat := by
  revert v; decide

theorem codeOf_decodeWire (b : Byte) : portOf (decodeWire b) = none ∧ codeOf (decodeWire b) = b := by
  revert b; decide

section
variable {b : Byte} {s : State}

theorem assembleByte_of_fixed {n : Nat} (h : decodeLength b = .fixed n) :
    assembleByte b s = startFixed (BitVec.ofNat 8 n) b s := by
  rw [assembleByte, h]

theorem assembleByte_of_variable (h : decodeLength b = .variableLen) :
    assembleByte b s = startVariable b s := by
  rw [assembleByte, h]

theorem assembleByte_of_data (h : b.getLsbD 7 = false) : assembleByte b s = assembleData b s := by
  rw [assembleByte, decodeLength_eq_notOpcode.mpr h]

end

/-- The meaning of a wire row is the assembler's treatment of its byte (R197). -/
theorem exec_wireRow {i : Instr} (hwire : portOf i = none) (s : State) :
    exec i s = .next (assembleByte (codeOf i) s) := by
  cases i with
  | opcLen2 m =>
    obtain ⟨hlen, -, -, -⟩ := decodeLength_codeOf_opcode m
    rw [assembleByte_of_fixed hlen]; rfl
  | opcLen4 m =>
    obtain ⟨-, hlen, -, -⟩ := decodeLength_codeOf_opcode m
    rw [assembleByte_of_fixed hlen]; rfl
  | opcLen6 m =>
    obtain ⟨-, -, hlen, -⟩ := decodeLength_codeOf_opcode m
    rw [assembleByte_of_fixed hlen]; rfl
  | opcLenVar m =>
    obtain ⟨-, -, -, hlen⟩ := decodeLength_codeOf_opcode m
    rw [assembleByte_of_variable hlen]; rfl
  | data v => rw [assembleByte_of_data (getLsbD_codeOf_data v)]; rfl
  | _ => cases hwire

/-- Settles O17: each row's meaning is `assembleByte` of its byte, and `assemble` of a good entry is too. -/
theorem wireRowsAreTheAssembler : Obligations.WireRowsAreTheAssembler := by
  intro b s
  obtain ⟨hport, hcode⟩ := codeOf_decodeWire b
  rw [exec_wireRow hport, hcode]; rfl

/-! ### Opcode bytes -/

/-- A frame under way when an opcode arrives counts one framing error (R192). -/
theorem abortPartial_cnt (s : State) :
    (abortPartial s).cnt =
      if s.asmState = .waitOpc then s.cnt else { s.cnt with framingErr := s.cnt.framingErr + 1#16 } := by
  rcases abortPartial_cases s with ⟨hst, heq⟩ | ⟨hst, heq⟩ <;> rw [heq]
  · rw [if_pos hst]
  · rw [if_neg hst]; rfl

/-- Settles O14: a row's byte is its class and code, and starting a frame touches the assembler and CNT. -/
theorem opcodeByteStartsAFrame : Obligations.OpcodeByteStartsAFrame := by
  intro m s cnt
  obtain ⟨hlen2, hlen4, hlen6, hlenVar⟩ := codeOf_opcode_eq_ofNat m
  have hcnt : (abortPartial s).cnt = cnt := abortPartial_cnt s
  refine ⟨?_, ?_, ?_, ?_⟩
  · rw [exec, execOpcLen2, startFixed_frame, hcnt, hlen2]
  · rw [exec, execOpcLen4, startFixed_frame, hcnt, hlen4]
  · rw [exec, execOpcLen6, startFixed_frame, hcnt, hlen6]
  · rw [exec, execOpcLenVar, startVariable_frame, hcnt, hlenVar]

/-! ### Data bytes -/

section
variable {s : State} (b : Byte)

theorem assembleData_noise (hst : s.asmState = .waitOpc) : assembleData b s = bump .framingErr s := by
  rw [assembleData, hst]; rfl

theorem assembleData_badLength (hst : s.asmState = .waitLen)
    (hb : b.toNat < 3 ∨ s.params.maxFrame < b.toNat) :
    assembleData b s = bump .framingErr (asmReset s) := by
  rw [assembleData, hst]; exact if_pos hb

theorem assembleData_length (hst : s.asmState = .waitLen) (hlo : 3 ≤ b.toNat)
    (hhi : b.toNat ≤ s.params.maxFrame) :
    assembleData b s = { s with asmBuf := s.asmBuf ++ [b], asmExpect := b, asmState := .waitPayload } := by
  rw [assembleData, hst]; exact if_neg (by omega)

theorem assembleData_payload (hst : s.asmState = .waitPayload)
    (hne : s.asmBuf.length + 1 ≠ s.asmExpect.toNat) :
    assembleData b s = { s with asmBuf := s.asmBuf ++ [b] } := by
  rw [assembleData, hst]; exact if_neg (by simpa using hne)

theorem assembleData_last (hst : s.asmState = .waitPayload)
    (hlen : s.asmBuf.length + 1 = s.asmExpect.toNat) :
    assembleData b s = asmReset (complete (s.asmBuf ++ [b]) s) := by
  have hreset : assembleData b s =
      asmReset (complete (s.asmBuf ++ [b]) { s with asmBuf := s.asmBuf ++ [b] }) := by
    rw [assembleData, hst]; exact if_pos (by simpa using hlen)
  rw [hreset, complete_asmBuf]; rfl

end

/-- Settles O15: one of the assembler's equations for each clause. -/
theorem dataByteByAssemblerState : Obligations.DataByteByAssemblerState := by
  intro v s b framing
  have hexec : exec (.data v) s = .next (assembleData b s) := by
    rw [exec, execData, codeOf_data_eq_ofNat]
  have hb : b.toNat = v.toNat := by
    have hv := v.isLt
    rw [BitVec.toNat_ofNat, Nat.mod_eq_of_lt (by omega)]
  rw [hexec]
  refine ⟨fun hst => ?_, fun hst hbad => ?_, fun hst hlo hhi => ?_, fun hst hne => ?_⟩
  · rw [assembleData_noise b hst]; rfl
  · rw [assembleData_badLength b hst (by rwa [hb])]; rfl
  · rw [assembleData_length b hst (by rwa [hb]) (by rwa [hb])]
  · rw [assembleData_payload b hst hne]

/-! ### Completed frames -/

/-- The frame answers the reply that is waited for, if there is one (R252). -/
def settles (f : Frame) (s : State) : Bool := s.pending.any (answers s.params.matchKey f)

theorem settles_iff {f : Frame} {s : State} :
    settles f s = true ↔
      ∃ p, s.pending = some p ∧ f.head? = some p.replyOpc ∧ matchKey s.params.matchKey f = p.corrId := by
  simp [settles, answers, Option.any_eq_true]

theorem correlate_eq (f : Frame) (s : State) :
    correlate f s =
      { s with
        resultCode := if settles f s then .replyReceived else s.resultCode
        resultSeq := if settles f s then s.resultSeq + 1#8 else s.resultSeq
        pending := if settles f s then none else s.pending } := by
  rcases correlate_cases f s with ⟨⟨p, hp, ha⟩, heq⟩ | ⟨hno, heq⟩ <;> rw [heq]
  · have hyes : settles f s = true := by simp [settles, hp, ha]
    simp only [hyes, if_true]; rfl
  · have hnot : settles f s = false := by
      rw [← Bool.not_eq_true, settles, Option.any_eq_true]
      rintro ⟨p, hp, ha⟩
      rw [hno p hp] at ha; cases ha
    simp only [hnot, Bool.false_eq_true, if_false]

/-- What accepting a valid frame leaves (R196): it is counted, is a MSG backoff event, settles the reply it
answers and goes to the consumer. -/
def accepted (f : Frame) (s : State) : State :=
  { s with
    cnt := { s.cnt with rxFrames := s.cnt.rxFrames + 1#16 }
    lastEvent := .msg, backoffR := draw s, draws := s.draws + 1
    resultCode := if settles f s then .replyReceived else s.resultCode
    resultSeq := if settles f s then s.resultSeq + 1#8 else s.resultSeq
    pending := if settles f s then none else s.pending
    dispatch := if s.sinkEn then s.dispatch ++ [f] else s.dispatch }

theorem complete_of_valid {f : Frame} (h : valid f = true) (s : State) : complete f s = accepted f s := by
  rw [complete, if_pos h, dispatchFrame_frame, correlate_eq]; rfl

theorem complete_of_not_valid {f : Frame} (h : valid f = false) (s : State) :
    complete f s = bump .cksumErr s := by
  rw [complete, h]; rfl

/-- Settles O16: the completing byte hands the frame over and resets the assembler. -/
theorem completedFrameIsCheckedAndDelivered : Obligations.CompletedFrameIsCheckedAndDelivered := by
  intro v s hst hlen f
  have hexec : exec (.data v) s = .next (asmReset (complete f s)) := by
    rw [exec, execData, codeOf_data_eq_ofNat, assembleData_last _ hst hlen]
  rw [hexec]
  refine ⟨fun hbad => ?_, fun hxor hlong => ⟨settles f s, settles_iff, ?_⟩⟩
  · have hinvalid : valid f = false := by
      rw [← Bool.not_eq_true, valid_iff]
      rintro ⟨hlong, hxor⟩
      exact hbad.elim (· hxor) (by omega)
    rw [complete_of_not_valid hinvalid]; rfl
  · rw [complete_of_valid (valid_iff.mpr ⟨hlong, hxor⟩)]; rfl

end Sys2Proof.Machine
end

section
/-! The bytes of a whole frame through the assembler (R191 to R196), one after another from WAIT_OPC. -/

namespace Sys2Proof.Machine

/-- The wire rows of a byte sequence do what POLL's step 3 does with it (R197, R273). -/
theorem afterOps_wireRows (f : Frame) (s : State) :
    afterOps (f.map decodeWire) s = .next (assembleAll (goodEntries f) s) := by
  induction f generalizing s with
  | nil => rfl
  | cons b rest ih =>
    rw [List.map_cons, afterOps, wireRowsAreTheAssembler b s]
    exact ih _

theorem assembleAll_goodEntries_cons (b : Byte) (rest : Frame) (s : State) :
    assembleAll (goodEntries (b :: rest)) s = assembleAll (goodEntries rest) (assembleByte b s) := rfl

/-- What the assembler held meanwhile is no part of what a completed frame leaves (R196). -/
theorem asmReset_complete (f : Frame) (s : State) : asmReset (complete f s) = complete f (asmReset s) := by
  cases hv : valid f with
  | true => rw [complete_of_valid hv, complete_of_valid hv]; rfl
  | false => rw [complete_of_not_valid hv, complete_of_not_valid hv]; rfl

/-- Data bytes up to the expected length complete the frame that they extend (R195, R196). -/
theorem assembleAll_payload {g : Frame} {s : State} (hst : s.asmState = .waitPayload) (hne : g ≠ [])
    (hdata : ∀ b ∈ g, b.getLsbD 7 = false) (hlen : s.asmBuf.length + g.length = s.asmExpect.toNat) :
    assembleAll (goodEntries g) s = complete (s.asmBuf ++ g) (asmReset s) := by
  induction g generalizing s with
  | nil => exact absurd rfl hne
  | cons b rest ih =>
    obtain ⟨hb, hrest⟩ := List.forall_mem_cons.mp hdata
    rw [List.length_cons] at hlen
    rw [assembleAll_goodEntries_cons, assembleByte_of_data hb]
    cases rest with
    | nil => rw [assembleData_last b hst hlen, asmReset_complete]; rfl
    | cons c rest =>
      have hmore : (s.asmBuf ++ [b]).length + (c :: rest).length = s.asmExpect.toNat := by
        rw [List.length_append, List.length_singleton, Nat.add_assoc, Nat.add_comm 1, hlen]
      rw [assembleData_payload b hst (by rw [List.length_cons] at hlen; omega),
        ih (s := { s with asmBuf := s.asmBuf ++ [b] }) hst (by simp) hrest hmore, List.append_assoc]
      rfl

theorem assembleByte_fixed_of_waitOpc {opc : Byte} {n : Nat} {s : State} (hst : s.asmState = .waitOpc)
    (hopc : decodeLength opc = .fixed n) :
    assembleByte opc s =
      { s with asmBuf := [opc], asmExpect := BitVec.ofNat 8 n, asmState := .waitPayload } := by
  rw [assembleByte_of_fixed hopc, startFixed_frame, abortPartial_cnt, if_pos hst]

theorem assembleByte_variable_of_waitOpc {opc : Byte} {s : State} (hst : s.asmState = .waitOpc)
    (hopc : decodeLength opc = .variableLen) :
    assembleByte opc s = { s with asmBuf := [opc], asmExpect := 0x00#8, asmState := .waitLen } := by
  rw [assembleByte_of_variable hopc, startVariable_frame, abortPartial_cnt, if_pos hst]

/-- The five conditions of R175, spelled out. -/
theorem shapeOK_cons_iff {maxFrame : Nat} {opc : Byte} {rest : Frame} :
    shapeOK maxFrame (opc :: rest) = true ↔
      rest ≠ [] ∧ rest.length + 1 ≤ maxFrame ∧ opc.getLsbD 7 = true ∧ (∀ b ∈ rest, b.getLsbD 7 = false) ∧
      frameLength (opc :: rest) = some (rest.length + 1) ∧
      (decodeLength opc = .variableLen → 3 ≤ (rest.headD 0x00#8).toNat) := by
  cases rest <;> simp [shapeOK, and_assoc, ← imp_iff_not_or]

/-- From WAIT_OPC the bytes of a well-shaped frame complete that frame and nothing else. -/
theorem assembleAll_frame {s : State} {f : Frame} (hst : s.asmState = .waitOpc)
    (hshape : shapeOK s.params.maxFrame f = true) :
    assembleAll (goodEntries f) s = complete f (asmReset s) := by
  cases f with
  | nil => cases hshape
  | cons opc rest =>
    obtain ⟨hne, hmax, hopc, hdata, hlen, hvar⟩ := shapeOK_cons_iff.mp hshape
    rw [assembleAll_goodEntries_cons]
    cases hclass : decodeLength opc with
    | notOpcode => rw [decodeLength_eq_notOpcode.mp hclass] at hopc; cases hopc
    | fixed n =>
      obtain ⟨-, hn⟩ := fixed_of_decodeLength hclass
      have htotal : n = rest.length + 1 := by simpa [frameLength, hclass] using hlen
      rw [assembleByte_fixed_of_waitOpc hst hclass, assembleAll_payload rfl hne hdata]
      · rfl
      · rw [BitVec.toNat_ofNat, Nat.mod_eq_of_lt (by omega), htotal]; exact Nat.add_comm _ _
    | variableLen =>
      cases rest with
      | nil => exact absurd rfl hne
      | cons len rest =>
        obtain ⟨hl, hrest⟩ := List.forall_mem_cons.mp hdata
        have hlo : 3 ≤ len.toNat := hvar hclass
        have htotal : len.toNat = rest.length + 2 := by simpa [frameLength, hclass] using hlen
        rw [List.length_cons] at hmax
        rw [assembleByte_variable_of_waitOpc hst hclass, assembleAll_goodEntries_cons,
          assembleByte_of_data hl, assembleData_length len rfl hlo (by dsimp only; omega),
          assembleAll_payload rfl (by rintro rfl; simp at htotal; omega) hrest]
        · rfl
        · rw [htotal]; exact Nat.add_comm _ _

/-- Settles O19: the rows complete the frame, and completing it counts and emits what the statement says. -/
theorem frameBytesCompleteTheFrame : Obligations.FrameBytesCompleteTheFrame := by
  intro s f _ hst hshape
  refine ⟨complete f (asmReset s), ?_⟩
  rw [afterOps_wireRows, assembleAll_frame hst hshape]
  cases hv : valid f with
  | true =>
    rw [complete_of_valid hv]
    exact ⟨rfl, rfl, rfl, rfl, rfl, fun _ => ⟨rfl, rfl, rfl⟩, nofun⟩
  | false =>
    rw [complete_of_not_valid hv]
    exact ⟨rfl, rfl, rfl, rfl, rfl, nofun, fun _ => ⟨rfl, rfl, rfl⟩⟩

end Sys2Proof.Machine
end

section
/-! What POLL does to the receive side (R190, R196, R198, R257): its step 3 alone touches the assembler, the
frame counters and DISPATCH, and what a good assembler hands to DISPATCH is well shaped and valid. -/

namespace Sys2Proof.Machine

/-! ### What POLL leaves to its step 3 -/

/-- RXB, the assembler's elements, and what a frame or a framing error is recorded in, every other element at
its reset value. -/
def receptionView (s : State) : State :=
  { State.resetOf s.params with
    rxb := s.rxb, asmState := s.asmState, asmBuf := s.asmBuf, asmExpect := s.asmExpect
    lastEvent := s.lastEvent, dispatch := s.dispatch
    cnt :=
      { (State.resetOf s.params).cnt with
        cksumErr := s.cnt.cksumErr, framingErr := s.cnt.framingErr, rxFrames := s.cnt.rxFrames } }

section
variable (s : State)

theorem receptionView_carrierCheck : receptionView (carrierCheck s) = receptionView s := by
  rcases carrierCheck_cases s with ⟨-, heq⟩ | ⟨-, -, heq⟩ | ⟨-, -, heq⟩ <;> rw [heq] <;> rfl

theorem receptionView_arm (f : Frame) : receptionView (arm f s) = receptionView s := by
  rcases arm_cases f s with ⟨-, heq⟩ | ⟨ro, cid, -, heq⟩ <;> rw [heq]
  split <;> rfl

theorem receptionView_handleDone : receptionView (handleDone s) = receptionView s := by
  rw [handleDone]
  split
  · rw [receptionView_arm]; rfl
  · rfl

theorem receptionView_handleCollided : receptionView (handleCollided s) = receptionView s := by
  rcases handleCollided_cases s with ⟨-, heq⟩ | ⟨slot, -, -, heq⟩ | ⟨slot, -, -, heq⟩ <;> rw [heq] <;> rfl

theorem receptionView_handleOutcome : receptionView (handleOutcome s) = receptionView s := by
  rw [handleOutcome]
  split
  · rfl
  · exact receptionView_handleDone s
  · exact receptionView_handleCollided s

theorem receptionView_timeoutCheck : receptionView (timeoutCheck s) = receptionView s := by
  rcases timeoutCheck_cases s with ⟨-, heq⟩ | ⟨-, heq⟩ <;> rw [heq]; rfl

theorem receptionView_drainNext : receptionView (drainNext s) = receptionView s := by
  rw [drainNext_frame]; rfl

/-- Step 3 finds the receive side as it was before the POLL. -/
theorem receptionView_beforeAssembly : receptionView (handleOutcome (carrierCheck s)) = receptionView s := by
  rw [receptionView_handleOutcome, receptionView_carrierCheck]

/-- Steps 4 and 5 keep the receive side as step 3 leaves it. -/
theorem receptionView_pollStep :
    receptionView (pollStep s) =
      receptionView { assembleAll s.rxb (handleOutcome (carrierCheck s)) with rxb := [] } := by
  have hrxb : (handleOutcome (carrierCheck s)).rxb = s.rxb :=
    (congrArg State.rxb (receptionView_beforeAssembly s) :)
  rw [pollStep, receptionView_drainNext, receptionView_timeoutCheck, drainRxb, drainEntries_eq, hrxb]

end

/-! ### An entry with a malformed stop bit -/

theorem assemble_err (b : Byte) (s : State) :
    assemble { err := true, byte := b } s = bump .framingErr (asmReset s) := rfl

theorem receptionView_pollStep_err {s : State} {b : Byte} (h : s.rxb = [{ err := true, byte := b }]) :
    receptionView (pollStep s) = { bump .framingErr (asmReset (receptionView s)) with rxb := [] } := by
  have hbefore := receptionView_beforeAssembly s
  rw [receptionView_pollStep, h, ← hbefore]; rfl

/-- Settles O18: the other steps of the POLL leave the receive side alone. -/
theorem errorEntryResetsTheAssembler : Obligations.ErrorEntryResetsTheAssembler := by
  intro b s
  refine ⟨assemble_err b s, fun hrxb => ⟨pollStep s, rfl, ?_⟩⟩
  have hview := receptionView_pollStep_err hrxb
  exact ⟨congrArg State.asmState hview, congrArg State.asmBuf hview, congrArg State.asmExpect hview,
    (congrArg (fun r : State => r.cnt.framingErr) hview :),
    (congrArg (fun r : State => r.cnt.rxFrames) hview :),
    (congrArg (fun r : State => r.cnt.cksumErr) hview :),
    (congrArg State.dispatch hview :), (congrArg State.lastEvent hview :)⟩

/-! ### What reaches DISPATCH -/

/-- Between the two states DISPATCH grows, if at all, by well-shaped valid frames (R196, R198). -/
def Emits (maxFrame : Nat) (s t : State) : Prop :=
  ∃ fs, t.dispatch = s.dispatch ++ fs ∧ ∀ f ∈ fs, shapeOK maxFrame f = true ∧ valid f = true

theorem Emits.of_eq {m : Nat} {s t : State} (h : t.dispatch = s.dispatch) : Emits m s t :=
  ⟨[], by rw [h, List.append_nil], by simp⟩

theorem Emits.trans {m : Nat} {s t u : State} (hst : Emits m s t) (htu : Emits m t u) : Emits m s u := by
  obtain ⟨fs, hfs, hgood⟩ := hst
  obtain ⟨gs, hgs, hgood'⟩ := htu
  refine ⟨fs ++ gs, by rw [hgs, hfs, List.append_assoc], fun f hf => ?_⟩
  exact (List.mem_append.mp hf).elim (hgood f) (hgood' f)

/-- Only a valid frame is emitted, and only to a consumer that is registered (R196, R257). -/
theorem complete_dispatch (f : Frame) (s : State) :
    (complete f s).dispatch = if valid f && s.sinkEn then s.dispatch ++ [f] else s.dispatch := by
  cases hv : valid f with
  | true => rw [complete_of_valid hv, Bool.true_and]; rfl
  | false => rw [complete_of_not_valid hv]; rfl

theorem complete_emits {m : Nat} {f : Frame} (hshape : shapeOK m f = true) (s : State) :
    Emits m s (complete f s) := by
  have hd := complete_dispatch f s
  split at hd
  · next hv =>
    obtain ⟨hvalid, -⟩ := Bool.and_eq_true_iff.mp hv
    exact ⟨[f], hd, by simpa using ⟨hshape, hvalid⟩⟩
  · exact .of_eq hd

section
variable {s : State}

/-- The byte that reaches the expected length makes a well-shaped frame of what the assembler holds (R198). -/
theorem AssemblerShape.shapeOK_last {b : Byte} (h : AssemblerShape s) (hst : s.asmState = .waitPayload)
    (hb : b.getLsbD 7 = false) (hlen : s.asmBuf.length + 1 = s.asmExpect.toNat) :
    shapeOK s.params.maxFrame (s.asmBuf ++ [b]) = true := by
  simp only [AssemblerShape, hst] at h
  obtain ⟨⟨opc, rest, hbuf, hopc, hrest, hvar⟩, hframe, -, hmax⟩ := h
  have hdata : ∀ x ∈ rest ++ [b], x.getLsbD 7 = false :=
    List.forall_mem_append.mpr ⟨hrest, List.forall_mem_singleton.mpr hb⟩
  have hfull := frameLength_append hframe [b]
  rw [hbuf, List.length_cons] at hlen
  rw [hbuf, List.cons_append, ← hlen] at hfull
  rw [hbuf, List.cons_append, shapeOK_cons_iff, List.length_append, List.length_singleton]
  refine ⟨by simp, by omega, hopc, hdata, hfull, fun hv => ?_⟩
  obtain ⟨-, hthree⟩ := hvar hv
  cases hcase : rest ++ [b] with
  | nil => simp at hcase
  | cons len tail =>
    have hlast : len.toNat = rest.length + 1 + 1 := by simpa [frameLength, hv, hcase] using hfull
    rw [List.headD_cons]; omega

theorem assembleData_emits (h : Good s) {b : Byte} (hb : b.getLsbD 7 = false) :
    Emits s.params.maxFrame s (assembleData b s) := by
  rcases assembleData_cases b s with
    ⟨-, heq⟩ | ⟨-, -, heq⟩ | ⟨-, -, -, heq⟩ | ⟨-, -, heq⟩ | ⟨hst, hlen, -⟩
  iterate 4
    · rw [heq]; exact .of_eq rfl
  · rw [assembleData_last b hst hlen]
    exact (complete_emits (h.shape.shapeOK_last hst hb hlen) s).trans (.of_eq rfl)

theorem assembleByte_emits (h : Good s) (b : Byte) : Emits s.params.maxFrame s (assembleByte b s) := by
  rcases assembleByte_cases b s with ⟨n, -, heq⟩ | ⟨-, heq⟩ | ⟨hb, heq⟩ <;> rw [heq]
  · rw [startFixed_frame]; exact .of_eq rfl
  · rw [startVariable_frame]; exact .of_eq rfl
  · exact assembleData_emits h (decodeLength_eq_notOpcode.mp hb)

theorem assemble_emits (h : Good s) (e : RxEntry) : Emits s.params.maxFrame s (assemble e s) := by
  rcases assemble_cases e s with ⟨-, heq⟩ | ⟨-, heq⟩ <;> rw [heq]
  · exact .of_eq rfl
  · exact assembleByte_emits h e.byte

theorem assemble_params (e : RxEntry) (s : State) : (assemble e s).params = s.params := by
  rw [assemble_frame]

/-- Each entry of RXB meets the assembler in a good state. -/
theorem assembleAll_emits (h : Good s) (es : List RxEntry) :
    Emits s.params.maxFrame s (assembleAll es s) := by
  induction es generalizing s with
  | nil => exact .of_eq rfl
  | cons e rest ih =>
    have hrest := ih (h.assemble e)
    rw [assemble_params] at hrest
    exact (assemble_emits h e).trans hrest

theorem pollStep_emits (h : Good s) : Emits s.params.maxFrame s (pollStep s) := by
  have hgood : Good (handleOutcome (carrierCheck s)) := (good_carrierCheck.mpr h).handleOutcome
  have hbefore := receptionView_beforeAssembly s
  have hparams : (handleOutcome (carrierCheck s)).params = s.params := (congrArg State.params hbefore :)
  have hfirst : (handleOutcome (carrierCheck s)).dispatch = s.dispatch :=
    (congrArg State.dispatch hbefore :)
  have hlast : (pollStep s).dispatch = (assembleAll s.rxb (handleOutcome (carrierCheck s))).dispatch :=
    (congrArg State.dispatch (receptionView_pollStep s) :)
  have hassembled := assembleAll_emits hgood s.rxb
  rw [hparams] at hassembled
  exact (Emits.of_eq hfirst).trans (hassembled.trans (.of_eq hlast))

theorem tickStep_dispatch (x : Level) (s : State) : (tickStep x s).dispatch = s.dispatch :=
  (congrArg State.dispatch (outsideTick_tickStep s x) :)

theorem enqueue_dispatch (body : Frame) (prio : Bool) (s : State) :
    (enqueue body prio s).dispatch = s.dispatch := by
  rcases enqueue_cases body prio s with ⟨-, heq⟩ | ⟨-, -, heq⟩ | ⟨-, -, heq⟩ <;> rw [heq] <;> rfl

/-- No host command writes DISPATCH (R323). -/
theorem exec_hostCommand_dispatch {i : Instr} (hhost : portOf i = some .host) (s : State) :
    ∃ t, exec i s = .next t ∧ t.dispatch = s.dispatch := by
  cases i with
  | submit flags body =>
    refine ⟨_, rfl, ?_⟩
    split
    · exact enqueue_dispatch body _ s
    · rfl
  | flush | readResult | readStatus | reset => exact ⟨_, rfl, rfl⟩
  | config _ | setSink _ | readCounter _ =>
    refine ⟨_, rfl, ?_⟩
    split <;> rfl
  | _ => cases hhost

/-- An operation emits through the assembler or not at all. -/
theorem exec_emits (h : Good s) (i : Instr) :
    ∃ t, exec i s = .next t ∧ Emits s.params.maxFrame s t := by
  cases hport : portOf i with
  | none => exact ⟨_, exec_wireRow hport s, assembleByte_emits h _⟩
  | some port =>
    cases port with
    | host =>
      obtain ⟨t, hexec, hd⟩ := exec_hostCommand_dispatch hport s
      exact ⟨t, hexec, .of_eq hd⟩
    | timer =>
      cases i with
      | tick x => exact ⟨_, rfl, .of_eq (tickStep_dispatch x s)⟩
      | _ => cases hport
    | polling =>
      cases i with
      | poll => exact ⟨_, rfl, pollStep_emits h⟩
      | _ => cases hport

end

/-- Settles O60: a step runs one operation in a good state, or answers ILLEGAL and emits nothing. -/
theorem dispatchedFramesAreWellFormed : Obligations.DispatchedFramesAreWellFormed := by
  intro s t hgood hstep
  cases hin : s.input with
  | nil =>
    simp only [step, hin] at hstep
    cases hstep
    exact Emits.of_eq rfl
  | cons r rest =>
    cases hdec : decode r with
    | ok i =>
      obtain ⟨u, hexec, hemits⟩ := exec_emits ((good_issue r rest).mpr hgood) i
      rw [step_of_decode hin hdec, hexec] at hstep
      cases hstep
      exact hemits
    | error e =>
      simp only [step, hin, hdec, reject] at hstep
      split at hstep <;> cases hstep
      exact Emits.of_eq rfl

end Sys2Proof.Machine
end

section
/-! Arbitration (R210 to R213, R219): the bus after activity, and the backoff window by its candidate. -/

namespace Sys2Proof.Machine

/-! ### A line at rest -/

/-- What `n` ticks of mark leave after activity, with nothing to send and no character under way (R150). -/
def resting (n : Nat) (s : State) : State :=
  { hearing none s.rxShift true s with
    idleCount := BitVec.ofNat 16 (min n 65535), carrierSeen := s.carrierSeen }

theorem satSucc_ofNat_min (n : Nat) :
    satSucc (BitVec.ofNat 16 (min n 65535)) = BitVec.ofNat 16 (min (n + 1) 65535) := by
  apply BitVec.eq_of_toNat_eq
  rw [satSucc_toNat, BitVec.toNat_ofNat, BitVec.toNat_ofNat]
  omega

theorem idleCount_resting (n : Nat) (s : State) : (resting n s).idleCount.toNat = min n 65535 := by
  rw [resting, BitVec.toNat_ofNat, Nat.mod_eq_of_lt (by omega)]

theorem params_resting (n : Nat) (s : State) : (resting n s).params = s.params := rfl

/-- Nothing that the window depends on belongs to the line (R211 to R213). -/
theorem backoffWindow_resting (n : Nat) (s : State) : backoffWindow (resting n s) = backoffWindow s := rfl

section
variable {s : State} (hp : s.txBitpos = none) (hb : s.txb = [])
include hp hb

/-- A mark between characters starts nothing and counts one idle tick (R146, R150). -/
theorem exec_tick_mark (hr : s.rxBitpos = none) :
    exec (.tick (!s.cfgInvSh)) s =
      .next { hearing none s.rxShift true s with
        idleCount := satSucc s.idleCount, carrierSeen := s.carrierSeen } := by
  have htick := exec_tick_noEdge hp (.inl hb) (l := true) hr (.inr rfl)
  rw [Bool.true_xor, hr] at htick
  exact htick

/-- A further mark finds the line as the ones before it left it. -/
theorem exec_tick_resting (n : Nat) :
    exec (.tick (!s.cfgInvSh)) (resting n s) = .next (resting (n + 1) s) := by
  have htick := exec_tick_mark (s := resting n s) hp hb rfl
  have hcount : satSucc (resting n s).idleCount = (resting (n + 1) s).idleCount := satSucc_ofNat_min n
  rw [hcount] at htick
  refine htick.trans (congrArg Host.Outcome.next ?_)
  by_cases hc : s.lineState = .collisionDetected <;> simp [resting, hearing, hc]

theorem afterTicks_resting (hr : s.rxBitpos = none) (hi : s.idleCount = 0#16) (n : Nat) :
    afterTicks (List.replicate (n + 1) (!s.cfgInvSh)) s = .next (resting (n + 1) s) := by
  induction n with
  | zero =>
    have htick := exec_tick_mark hp hb hr
    rw [hi] at htick
    exact afterTicks_single htick
  | succ n ih =>
    rw [List.replicate_succ', afterTicks_append ih]
    exact afterTicks_single (exec_tick_resting hp hb (n + 1))

end

/-- On an idle line with no character under way the idle counter alone decides (R210). -/
theorem avail_of_quiet {s : State} (hl : s.lineState = .idle) (hp : s.txBitpos = none)
    (hr : s.rxBitpos = none) :
    avail s =
      if s.idleCount.toNat < s.params.gapMin then .busy
      else if s.idleCount.toNat < s.params.gapMin + backoffWindow s then .awaitBackoff
      else .netAvailable := by
  rw [avail, if_neg (by simp [hl, hp, hr])]

/-- The first mark ends the one tick of CollisionDetected (R151). -/
theorem lineState_resting {s : State} (hl : s.lineState ≠ .transmitting) (n : Nat) :
    (resting n s).lineState = .idle := by
  change (if s.lineState = .collisionDetected then .idle else s.lineState) = LineState.idle
  cases hs : s.lineState with
  | transmitting => exact absurd hs hl
  | idle | collisionDetected => rfl

/-- No window and gap together reach the idle counter's ceiling (R13). -/
theorem gapMin_add_backoffWindow_lt {s : State} (hok : s.params.Ok)
    (hdraw : s.backoffR.toNat ≤ s.params.backoffRandMax) :
    s.params.gapMin + backoffWindow s < 65535 := by
  obtain ⟨-, -, -, -, hprio, hnormal, hsum, -⟩ := hok
  have htier : tier s ≤ s.params.tierColl := by
    unfold tier
    split
    · exact le_rfl
    · split <;> omega
  rw [backoffWindow]
  omega

theorem avail_resting {s : State} (hl : s.lineState ≠ .transmitting) (hp : s.txBitpos = none)
    (hmax : s.params.gapMin + backoffWindow s < 65535) (n : Nat) :
    avail (resting n s) =
      if n < s.params.gapMin then .busy
      else if n < s.params.gapMin + backoffWindow s then .awaitBackoff
      else .netAvailable := by
  have hcount : ∀ m ≤ s.params.gapMin + backoffWindow s, (min n 65535 < m ↔ n < m) :=
    fun m hm => min_lt_iff.trans (or_iff_left (by omega))
  have havail := avail_of_quiet (lineState_resting hl n) hp rfl
  rw [idleCount_resting, backoffWindow_resting, params_resting] at havail
  simpa only [hcount _ (Nat.le_add_right _ _), hcount _ le_rfl] using havail

/-- Settles O33: the idle counter counts the marks, and below its ceiling it is their number. -/
theorem interFrameSpacing : Obligations.InterFrameSpacing := by
  intro s n hok hdraw hl hp hb hr hi
  have hmax := gapMin_add_backoffWindow_lt hok hdraw
  obtain ⟨-, -, -, hgap, -⟩ := hok
  cases n with
  | zero => exact ⟨s, rfl, fun _ => avail_of_idleCount_zero hgap hi, by omega, by omega⟩
  | succ n =>
    refine ⟨_, afterTicks_resting hp hb hr hi n, ?_⟩
    rw [avail_resting hl hp hmax]
    refine ⟨fun hn => if_pos hn, fun hlo hhi => ?_, fun hn => ?_⟩
    · rw [if_neg (Nat.not_lt.mpr hlo), if_pos hhi]
    · rw [if_neg (by omega), if_neg (Nat.not_lt.mpr hn)]

/-! ### The backoff window -/

theorem backoffWindow_of_collision {s : State} (h : s.lastEvent = .collision) :
    backoffWindow s = s.params.tierColl + s.backoffR.toNat := by
  rw [backoffWindow, tier, h]

theorem backoffWindow_of_msg {s : State} (h : s.lastEvent = .msg) :
    backoffWindow s =
      (if candPrio s then s.params.tierPrio else s.params.tierNormal) + s.backoffR.toNat := by
  rw [backoffWindow, tier, h]

theorem candPrio_of_inflight {s : State} {slot : Slot} (h : s.inflight = some slot) :
    candPrio s = slot.prio := by
  rw [candPrio, h]

theorem candPrio_of_head {s : State} {head : Slot} {rest : List Slot} (hi : s.inflight = none)
    (hq : s.txq = head :: rest) : candPrio s = head.prio := by
  rw [candPrio, hi, hq]

theorem candPrio_of_empty {s : State} (hi : s.inflight = none) (hq : s.txq = []) : candPrio s = false := by
  rw [candPrio, hi, hq]

/-! ### SUBMIT and the window -/

/-- A slot behind another one, or without priority, does not change the candidate's priority (R213). -/
theorem candPrio_of_append {s t : State} {slot : Slot} (hit : t.inflight = s.inflight)
    (hqt : t.txq = s.txq ++ [slot]) (h : s.inflight ≠ none ∨ s.txq ≠ [] ∨ slot.prio = false) :
    candPrio t = candPrio s := by
  cases hi : s.inflight with
  | some flying => rw [candPrio_of_inflight hi, candPrio_of_inflight (hit.trans hi)]
  | none =>
    cases hq : s.txq with
    | cons head rest =>
      rw [hq, List.cons_append] at hqt
      rw [candPrio_of_head hi hq, candPrio_of_head (hit.trans hi) hqt]
    | nil =>
      rw [hq, List.nil_append] at hqt
      have hprio : slot.prio = false := by simpa [hi, hq] using h
      rw [candPrio_of_empty hi hq, candPrio_of_head (hit.trans hi) hqt, hprio]

/-- After a collision the candidate does not matter (R212). -/
theorem backoffWindow_congr {s t : State} (hparams : t.params = s.params)
    (hev : t.lastEvent = s.lastEvent) (hr : t.backoffR = s.backoffR)
    (h : s.lastEvent = .collision ∨ candPrio t = candPrio s) : backoffWindow t = backoffWindow s := by
  rcases h with h | h
  · rw [backoffWindow_of_collision h, backoffWindow_of_collision (hev.trans h), hparams, hr]
  · simp only [backoffWindow, tier, hparams, hev, hr, h]

section
variable {s : State} (b : Frame) (prio : Bool)

theorem backoffWindow_enqueue_eq
    (h : s.lastEvent = .collision ∨ s.inflight ≠ none ∨ s.txq ≠ [] ∨ prio = false) :
    backoffWindow (enqueue b prio s) = backoffWindow s := by
  rcases enqueue_cases b prio s with ⟨-, heq⟩ | ⟨-, -, heq⟩ | ⟨-, -, heq⟩ <;> rw [heq]
  · rfl
  · rfl
  · exact backoffWindow_congr rfl rfl rfl (h.imp_right (candPrio_of_append rfl rfl))

/-- With nothing queued or in flight there is room for the slot, and it is the candidate (R213, R231). -/
theorem backoffWindow_enqueue_prio (hok : s.params.Ok)
    (hwf : wellFormedBody s.params.maxFrame b = true) (hev : s.lastEvent = .msg)
    (hi : s.inflight = none) (hq : s.txq = []) :
    backoffWindow (enqueue b true s) = s.params.tierPrio + s.backoffR.toNat := by
  obtain ⟨hcap, -⟩ := hok
  have hoccupancy : occupancy s = 0 := by rw [occupancy, hi, hq]; rfl
  rcases enqueue_cases b true s with ⟨hbad, -⟩ | ⟨-, hfull, -⟩ | ⟨-, -, heq⟩
  · rw [hwf] at hbad; cases hbad
  · omega
  · have hcand : candPrio (enqueue b true s) = true := by
      simp only [heq, respond, candPrio, hi, hq, List.nil_append]
    have hmsg : (enqueue b true s).lastEvent = .msg := by rw [heq]; exact hev
    rw [backoffWindow_of_msg hmsg, hcand, heq]; rfl

/-- A SUBMIT of a well-formed body meets R114 and reaches the queue (R231, R281). -/
theorem exec_submit_of_wellFormedBody (hok : s.params.Ok)
    (hwf : wellFormedBody s.params.maxFrame b = true) :
    exec (.submit (if prio then 0x01#8 else 0x00#8) b) s = .next (enqueue b prio s) := by
  obtain ⟨hlo, hhi, -⟩ := wellFormedBody_iff.mp hwf
  have hframe : s.params.maxFrame ≤ 127 := by obtain ⟨-, -, -, -, -, -, -, -, h, -⟩ := hok; exact h
  have hread : readSubmit s.params (if prio then 0x01#8 else 0x00#8) b = some prio := by
    have hbyte : b.length ≤ 255 := by omega
    cases prio <;> simp [readSubmit, hlo, hhi, hbyte]
  simp only [exec, execSubmit, hread]

end

/-- Settles O34: the candidate picks the tier, and a queued slot is the candidate only with none before it. -/
theorem prioritySubmitShortensTheWindow : Obligations.PrioritySubmitShortensTheWindow := by
  intro s
  refine ⟨backoffWindow_of_collision, fun hev => ⟨fun slot hi => ?_, fun head rest hi hq => ?_,
    fun hi hq => ?_⟩, fun b prio hok hwf => ⟨_, exec_submit_of_wellFormedBody b prio hok hwf,
    backoffWindow_enqueue_eq b prio, fun hev hi hq hprio => ?_⟩⟩
  · rw [backoffWindow_of_msg hev, candPrio_of_inflight hi]
  · rw [backoffWindow_of_msg hev, candPrio_of_head hi hq]
  · rw [backoffWindow_of_msg hev, candPrio_of_empty hi hq]; rfl
  · subst hprio
    have hprio : s.params.tierPrio < s.params.tierNormal := by obtain ⟨-, -, -, -, h, -⟩ := hok; exact h
    rw [backoffWindow_enqueue_prio b hok hwf hev hi hq, backoffWindow_of_msg hev,
      candPrio_of_empty hi hq]
    exact ⟨rfl, Nat.add_lt_add_right hprio _⟩

end Sys2Proof.Machine
end

section
/-! The collision tier (R214, R216): which parts of an operation can make a MSG backoff event. -/

namespace Sys2Proof.Machine

/-! ### The assembler -/

/-- The assembler's elements and the backoff event, every other element at its reset value. -/
def assemblerView (s : State) : State :=
  { State.resetOf s.params with
    asmState := s.asmState, asmBuf := s.asmBuf, asmExpect := s.asmExpect, lastEvent := s.lastEvent }

section
variable (s : State)

theorem assemblerView_complete (f : Frame) :
    assemblerView (complete f s) = assemblerView (complete f (assemblerView s)) := by
  cases hv : valid f with
  | true => rw [complete_of_valid hv, complete_of_valid hv]; rfl
  | false => rw [complete_of_not_valid hv, complete_of_not_valid hv]; rfl

theorem assemblerView_assembleData (b : Byte) :
    assemblerView (assembleData b s) = assemblerView (assembleData b (assemblerView s)) := by
  rcases assembleData_cases b s with
    ⟨hst, -⟩ | ⟨hst, hb, -⟩ | ⟨hst, hlo, hhi, -⟩ | ⟨hst, hne, -⟩ | ⟨hst, hlen, -⟩
  · rw [assembleData_noise b hst, assembleData_noise (s := assemblerView s) b hst]; rfl
  · rw [assembleData_badLength b hst hb, assembleData_badLength (s := assemblerView s) b hst hb]; rfl
  · rw [assembleData_length b hst hlo hhi, assembleData_length (s := assemblerView s) b hst hlo hhi]; rfl
  · rw [assembleData_payload b hst hne, assembleData_payload (s := assemblerView s) b hst hne]; rfl
  · have hview : ∀ t, assemblerView (asmReset t) = asmReset (assemblerView t) := fun _ => rfl
    rw [assembleData_last b hst hlen, assembleData_last (s := assemblerView s) b hst hlen, hview, hview,
      assemblerView_complete]
    rfl

/-- The assembler reads nothing but its own elements (R190 to R197). -/
theorem assemblerView_assemble (e : RxEntry) :
    assemblerView (assemble e s) = assemblerView (assemble e (assemblerView s)) := by
  rw [assemble, assemble]
  split
  · rfl
  · rw [assembleByte, assembleByte]
    split
    · rw [startFixed_frame, startFixed_frame]; rfl
    · rw [startVariable_frame, startVariable_frame]; rfl
    · exact assemblerView_assembleData s e.byte

end

theorem assemblerView_assembleAll (es : List RxEntry) {s t : State}
    (h : assemblerView s = assemblerView t) :
    assemblerView (assembleAll es s) = assemblerView (assembleAll es t) := by
  induction es generalizing s t with
  | nil => exact h
  | cons e rest ih => exact ih (by rw [assemblerView_assemble, h, ← assemblerView_assemble])

theorem CompletesValidFrame.congr {e : RxEntry} {s t : State} (h : CompletesValidFrame e s)
    (hst : assemblerView s = assemblerView t) : CompletesValidFrame e t := by
  have hstate : s.asmState = t.asmState := (congrArg State.asmState hst :)
  have hbuf : s.asmBuf = t.asmBuf := (congrArg State.asmBuf hst :)
  have hexpect : s.asmExpect = t.asmExpect := (congrArg State.asmExpect hst :)
  exact ⟨h.good, h.isData, hstate ▸ h.inPayload, hbuf ▸ hexpect ▸ h.last, hbuf ▸ h.checked⟩

/-! ### Entries that make a backoff event -/

/-- Only completing a valid frame is a backoff event (R196, R214). -/
theorem assemble_lastEvent {e : RxEntry} {s : State} (h : ¬ CompletesValidFrame e s) :
    (assemble e s).lastEvent = s.lastEvent := by
  rcases assemble_cases e s with ⟨-, heq⟩ | ⟨hgood, heq⟩ <;> rw [heq]
  · rfl
  · rcases assembleByte_cases e.byte s with ⟨n, -, heq⟩ | ⟨-, heq⟩ | ⟨hdata, heq⟩ <;> rw [heq]
    · rw [startFixed_frame]
    · rw [startVariable_frame]
    · rcases assembleData_cases e.byte s with
        ⟨-, heq⟩ | ⟨-, -, heq⟩ | ⟨-, -, -, heq⟩ | ⟨-, -, heq⟩ | ⟨hst, hlen, -⟩
      iterate 4
        · exact (congrArg State.lastEvent heq :)
      · have hinvalid : valid (s.asmBuf ++ [e.byte]) = false :=
          Bool.eq_false_iff.mpr fun hv => h ⟨hgood, decodeLength_eq_notOpcode.mp hdata, hst, hlen, hv⟩
        rw [assembleData_last _ hst hlen, complete_of_not_valid hinvalid]; rfl

/-- If assembling entries changes the backoff event, one of them completes a valid frame. -/
theorem exists_completes_of_assembleAll {es : List RxEntry} {s : State}
    (h : (assembleAll es s).lastEvent ≠ s.lastEvent) :
    ∃ before e later, es = before ++ e :: later ∧ CompletesValidFrame e (assembleAll before s) := by
  induction es generalizing s with
  | nil => exact absurd rfl h
  | cons e rest ih =>
    by_cases he : CompletesValidFrame e s
    · exact ⟨[], e, rest, rfl, he⟩
    · have hrest : (assembleAll rest (assemble e s)).lastEvent ≠ (assemble e s).lastEvent := by
        rw [assemble_lastEvent he]; exact h
      obtain ⟨before, c, later, hes, hc⟩ := ih hrest
      exact ⟨e :: before, c, later, by rw [hes, List.cons_append], hc⟩

/-! ### The operations -/

/-- POLL's other steps make no backoff event, and leave its assembler what it finds (R270). -/
theorem exists_completes_of_pollStep {s : State} (h : (pollStep s).lastEvent ≠ s.lastEvent) :
    ∃ before e later, s.rxb = before ++ e :: later ∧ CompletesValidFrame e (assembleAll before s) := by
  have hview := receptionView_beforeAssembly s
  have hfirst : (handleOutcome (carrierCheck s)).lastEvent = s.lastEvent :=
    (congrArg State.lastEvent hview :)
  have hlast : (pollStep s).lastEvent = (assembleAll s.rxb (handleOutcome (carrierCheck s))).lastEvent :=
    (congrArg State.lastEvent (receptionView_pollStep s) :)
  have hasm : assemblerView (handleOutcome (carrierCheck s)) = assemblerView s :=
    (congrArg assemblerView hview :)
  rw [hlast, ← hfirst] at h
  obtain ⟨before, e, later, hes, he⟩ := exists_completes_of_assembleAll h
  exact ⟨before, e, later, hes, he.congr (assemblerView_assembleAll before hasm)⟩

/-- An opcode byte completes nothing, so only the data row can make a backoff event. -/
theorem exec_wireRow_lastEvent {i : Instr} (hwire : portOf i = none) (s : State) :
    ∃ t, exec i s = .next t ∧ (t.lastEvent ≠ s.lastEvent →
      ∃ v, i = .data v ∧ CompletesValidFrame { err := false, byte := BitVec.ofNat 8 v.toNat } s) := by
  refine ⟨assemble { err := false, byte := codeOf i } s, exec_wireRow hwire s, fun hne => ?_⟩
  have hdone : CompletesValidFrame { err := false, byte := codeOf i } s := by
    by_contra hno
    exact hne (assemble_lastEvent hno)
  have hclass := decodeLength_eq_notOpcode.mpr hdone.isData
  cases i with
  | data v => exact ⟨v, rfl, codeOf_data_eq_ofNat v ▸ hdone⟩
  | opcLen2 m | opcLen4 m | opcLen6 m | opcLenVar m =>
    obtain ⟨h2, h4, h6, hvar⟩ := decodeLength_codeOf_opcode m
    simp [h2, h4, h6, hvar] at hclass
  | _ => cases hwire

/-- The host makes no backoff event but by RESET (R288, R323). -/
theorem exec_hostCommand_lastEvent {i : Instr} (hhost : portOf i = some .host) (hreset : i ≠ .reset)
    (s : State) : ∃ t, exec i s = .next t ∧ t.lastEvent = s.lastEvent := by
  cases i with
  | submit flags body =>
    refine ⟨_, rfl, ?_⟩
    split
    · rcases enqueue_cases body _ s with ⟨-, heq⟩ | ⟨-, -, heq⟩ | ⟨-, -, heq⟩ <;> rw [heq] <;> rfl
    · rfl
  | flush | readResult | readStatus => exact ⟨_, rfl, rfl⟩
  | config _ | setSink _ | readCounter _ =>
    refine ⟨_, rfl, ?_⟩
    split <;> rfl
  | reset => exact absurd rfl hreset
  | _ => cases hhost

/-- The transmit branch makes a MSG backoff event only where the frame is done (R145). -/
theorem transmit_lastEvent_msg {p : TxBit} {l : Level} {s : State} (hs : s.lastEvent = .collision)
    (ht : (transmit p l s).lastEvent = .msg) :
    p = .stop ∧ (transmit p l s).txOutcome = .done ∧ (transmit p l s).txBitpos = none := by
  rcases transmit_cases p l s with ⟨-, heq⟩ | ⟨-, heq⟩ <;> rw [heq] at ht ⊢
  · rcases txAdvance_cases p { s with drive := xor (txLevel s.txByte p) s.cfgInv } with
      ⟨q, -, -, heq⟩ | ⟨b, rest, -, -, heq⟩ | ⟨hp, -, heq⟩ <;> rw [heq] at ht ⊢
    · cases hs.symm.trans ht
    · cases hs.symm.trans ht
    · exact ⟨hp, rfl, rfl⟩
  · cases ht

theorem frameStart_lastEvent (av : Availability) (s : State) :
    (frameStart av s).lastEvent = s.lastEvent := by
  rcases frameStart_cases av s with ⟨b, rest, -, -, -, heq⟩ | ⟨-, heq⟩ <;> rw [heq]

/-- A frame that starts is at its start bit (R143). -/
theorem txBitpos_of_frameStart_stop {av : Availability} {s : State}
    (h : (frameStart av s).txBitpos = some .stop) : s.txBitpos = some .stop := by
  rcases frameStart_cases av s with ⟨b, rest, -, -, -, heq⟩ | ⟨-, heq⟩ <;> rw [heq] at h
  · cases h
  · exact h

/-- A tick makes a MSG backoff event only at the last stop bit of a frame (R145). -/
theorem tickStep_lastEvent_msg {x : Level} {s : State} (hs : s.lastEvent = .collision)
    (ht : (tickStep x s).lastEvent = .msg) :
    s.txBitpos = some .stop ∧ (tickStep x s).txOutcome = .done ∧ (tickStep x s).txBitpos = none := by
  rcases tickStep_cases x s with ⟨p, hp, heq⟩ | ⟨-, -, heq⟩ <;> rw [heq, endTick_frame] at ht ⊢
  · have hstart := (frameStart_lastEvent (avail (latchConfig s)) (endCollision (latchConfig s))).trans
      ((congrArg State.lastEvent (endCollision_frame (latchConfig s))).trans hs)
    obtain ⟨rfl, hdone, hnone⟩ := transmit_lastEvent_msg hstart ht
    have hstop := txBitpos_of_frameStart_stop hp
    rw [endCollision_frame] at hstop
    exact ⟨hstop, hdone, hnone⟩
  · rw [receive_frame, endCollision_frame] at ht
    cases hs.symm.trans ht

/-- Settles O35: each port's operations, by what can make a MSG backoff event in them. -/
theorem collisionTierPersists : Obligations.CollisionTierPersists := by
  intro i s
  cases hport : portOf i with
  | none =>
    obtain ⟨t, hexec, hdata⟩ := exec_wireRow_lastEvent hport s
    exact ⟨t, hexec, fun hs ht => .inr (.inr (.inl (hdata (by simp [hs, ht]))))⟩
  | some port =>
    cases port with
    | host =>
      by_cases hreset : i = .reset
      · subst hreset
        exact ⟨_, rfl, fun _ _ => .inr (.inr (.inr rfl))⟩
      · obtain ⟨t, hexec, heq⟩ := exec_hostCommand_lastEvent hport hreset s
        exact ⟨t, hexec, fun hs ht => by rw [heq, hs] at ht; cases ht⟩
    | timer =>
      cases i with
      | tick x => exact ⟨_, rfl, fun hs ht => .inl ⟨x, rfl, tickStep_lastEvent_msg hs ht⟩⟩
      | _ => cases hport
    | polling =>
      cases i with
      | poll =>
        exact ⟨_, rfl, fun hs ht => .inr (.inl ⟨rfl, exists_completes_of_pollStep (by simp [hs, ht])⟩)⟩
      | _ => cases hport

end Sys2Proof.Machine
end

section
/-! What POLL's sub-steps count (R272 to R274): for each, the counters it can touch (R64, R300). -/

namespace Sys2Proof.Machine

section
variable (s : State)

/-- Arming can only count a replaced record (R251). -/
theorem arm_cnt (f : Frame) :
    (arm f s).cnt = { s.cnt with replyTimeout := (arm f s).cnt.replyTimeout } := by
  rcases arm_cases f s with ⟨-, heq⟩ | ⟨ro, cid, -, heq⟩ <;> rw [heq]
  split <;> rfl

theorem handleDone_cnt :
    (handleDone s).cnt =
      { s.cnt with
        txFrames := s.cnt.txFrames + 1#16, replyTimeout := (handleDone s).cnt.replyTimeout } := by
  rw [handleDone]
  split
  · rw [arm_cnt]; rfl
  · rfl

theorem handleCollided_cnt :
    (handleCollided s).cnt = { s.cnt with dropped := (handleCollided s).cnt.dropped } := by
  rcases handleCollided_cases s with ⟨-, heq⟩ | ⟨slot, -, -, heq⟩ | ⟨slot, -, -, heq⟩ <;> rw [heq] <;> rfl

/-- The counters of step 2 (R234, R236, R251). -/
theorem handleOutcome_cnt :
    (handleOutcome s).cnt =
      { s.cnt with
        txFrames := (handleOutcome s).cnt.txFrames, dropped := (handleOutcome s).cnt.dropped
        replyTimeout := (handleOutcome s).cnt.replyTimeout } := by
  rw [handleOutcome]
  split
  · rfl
  · rw [handleDone_cnt]
  · rw [handleCollided_cnt]

theorem complete_cnt (f : Frame) :
    (complete f s).cnt =
      { s.cnt with
        cksumErr := (complete f s).cnt.cksumErr, rxFrames := (complete f s).cnt.rxFrames } := by
  cases hv : valid f with
  | true => rw [complete_of_valid hv]; rfl
  | false => rw [complete_of_not_valid hv]; rfl

theorem timeoutCheck_cnt :
    (timeoutCheck s).cnt = { s.cnt with replyTimeout := (timeoutCheck s).cnt.replyTimeout } := by
  rcases timeoutCheck_cases s with ⟨-, heq⟩ | ⟨-, heq⟩ <;> rw [heq]; rfl

end

section
variable {s : State}

/-- An entry of RXB is counted as an error or as a frame, or not at all (R190 to R196). -/
theorem assemble_cnt (e : RxEntry) :
    (assemble e s).cnt =
      { s.cnt with
        cksumErr := (assemble e s).cnt.cksumErr, framingErr := (assemble e s).cnt.framingErr
        rxFrames := (assemble e s).cnt.rxFrames } := by
  rcases assemble_cases e s with ⟨-, heq⟩ | ⟨-, heq⟩ <;> rw [heq]
  · rfl
  · rcases assembleByte_cases e.byte s with ⟨n, -, heq⟩ | ⟨-, heq⟩ | ⟨-, heq⟩ <;> rw [heq]
    · rw [startFixed_frame, abortPartial_cnt]; split <;> rfl
    · rw [startVariable_frame, abortPartial_cnt]; split <;> rfl
    · rcases assembleData_cases e.byte s with
        ⟨-, heq⟩ | ⟨-, -, heq⟩ | ⟨-, -, -, heq⟩ | ⟨-, -, heq⟩ | ⟨hst, hlen, -⟩
      iterate 4
        · rw [heq] <;> rfl
      · have hlast : (assembleData e.byte s).cnt = (complete (s.asmBuf ++ [e.byte]) s).cnt := by
          rw [assembleData_last e.byte hst hlen]; rfl
        rw [hlast, complete_cnt]

/-- The counters of step 3 (R273). -/
theorem assembleAll_cnt (es : List RxEntry) :
    (assembleAll es s).cnt =
      { s.cnt with
        cksumErr := (assembleAll es s).cnt.cksumErr, framingErr := (assembleAll es s).cnt.framingErr
        rxFrames := (assembleAll es s).cnt.rxFrames } := by
  induction es generalizing s with
  | nil => rfl
  | cons e rest ih =>
    have hrest := ih (s := assemble e s)
    rw [assemble_cnt e] at hrest
    exact hrest

end

end Sys2Proof.Machine
end

section
/-! The carrier-loss check (R217): its three cases, and that POLL's other steps leave what it writes. -/

namespace Sys2Proof.Machine

/-! ### The check -/

section
variable {s : State}

/-- Activity, or no deadline yet: the deadline starts from this POLL. -/
theorem carrierCheck_restart (h : s.carrierSeen = true ∨ s.clDeadline = none) :
    carrierCheck s =
      { s with carrierSeen := false, clDeadline := some (s.now + s.params.carrierLossUs) } := by
  rcases h with h | h <;> simp [carrierCheck, h]

/-- The deadline is reached without activity: event E13. -/
theorem carrierCheck_lost {d : Nat} (hseen : s.carrierSeen = false) (hd : s.clDeadline = some d)
    (hle : d ≤ s.now) :
    carrierCheck s =
      { bump .carrierLoss s with
        clNotify := true, clDeadline := some (s.now + s.params.carrierLossUs) } := by
  rcases carrierCheck_cases s with ⟨hact, -⟩ | ⟨-, -, heq⟩ | ⟨-, ⟨d', hd', hlt⟩, -⟩
  · simp [hseen, hd] at hact
  · exact heq
  · cases hd.symm.trans hd'
    omega

theorem carrierCheck_waiting {d : Nat} (hseen : s.carrierSeen = false) (hd : s.clDeadline = some d)
    (hlt : s.now < d) : carrierCheck s = s := by
  simp only [carrierCheck, hseen, hd, if_neg (Nat.not_le.mpr hlt)]

theorem carrierSeen_carrierCheck (s : State) : (carrierCheck s).carrierSeen = false := by
  rcases carrierCheck_cases s with ⟨-, heq⟩ | ⟨hseen, -, heq⟩ | ⟨hseen, -, heq⟩ <;> rw [heq]
  · exact hseen
  · exact hseen

end

/-! ### What POLL leaves of its first step -/

/-- What the carrier-loss check writes, every other element at its reset value. -/
def carrierView (s : State) : State :=
  { State.resetOf s.params with
    carrierSeen := s.carrierSeen, clDeadline := s.clDeadline, clNotify := s.clNotify
    cnt := { (State.resetOf s.params).cnt with carrierLoss := s.cnt.carrierLoss } }

section
variable (s : State)

theorem carrierView_handleOutcome : carrierView (handleOutcome s) = carrierView s := by
  rw [handleOutcome_frame, handleOutcome_cnt]; rfl

theorem carrierView_drainRxb : carrierView (drainRxb s) = carrierView s := by
  have hcnt : (drainEntries s.rxb s).cnt.carrierLoss = s.cnt.carrierLoss := by
    rw [drainEntries_eq, assembleAll_cnt]
  rw [drainRxb, carrierView, hcnt, drainEntries_frame]; rfl

theorem carrierView_timeoutCheck : carrierView (timeoutCheck s) = carrierView s := by
  rw [timeoutCheck_frame, timeoutCheck_cnt]; rfl

theorem carrierView_drainNext : carrierView (drainNext s) = carrierView s := by
  rw [drainNext_frame]; rfl

theorem carrierView_pollStep : carrierView (pollStep s) = carrierView (carrierCheck s) := by
  rw [pollStep, carrierView_drainNext, carrierView_timeoutCheck, carrierView_drainRxb,
    carrierView_handleOutcome]

end

/-- Settles O36: the three cases of the check, which the POLL's other steps leave alone. -/
theorem carrierLossCheck : Obligations.CarrierLossCheck := by
  intro s
  have hview := carrierView_pollStep s
  have hseen : (pollStep s).carrierSeen = (carrierCheck s).carrierSeen :=
    (congrArg State.carrierSeen hview :)
  have hdeadline : (pollStep s).clDeadline = (carrierCheck s).clDeadline :=
    (congrArg State.clDeadline hview :)
  have hnotify : (pollStep s).clNotify = (carrierCheck s).clNotify := (congrArg State.clNotify hview :)
  have hlost : (pollStep s).cnt.carrierLoss = (carrierCheck s).cnt.carrierLoss :=
    (congrArg (fun r : State => r.cnt.carrierLoss) hview :)
  refine ⟨pollStep s, rfl, ?_⟩
  rw [hseen, hdeadline, hnotify, hlost]
  refine ⟨carrierSeen_carrierCheck s, fun hact => ?_, fun d hs hd hle => ?_, fun d hs hd hlt => ?_⟩
  · rw [carrierCheck_restart hact]; exact ⟨rfl, rfl, rfl⟩
  · rw [carrierCheck_lost hs hd hle]; exact ⟨rfl, rfl, rfl⟩
  · rw [carrierCheck_waiting hs hd hlt]; exact ⟨hd, rfl, rfl⟩

end Sys2Proof.Machine
end

section
/-! The carrier-loss check apart from the rest of POLL (R270 to R275): what the check writes, the other steps
do not read. -/

namespace Sys2Proof.Machine

/-! ### The correlator's cases -/

section
variable {s : State} {f : Frame}

theorem arm_of_none (h : replySpec s.params.replySpec f = none) : arm f s = s := by
  rw [arm, h]

/-- A record that is still pending is replaced and counted (R251). -/
theorem arm_of_some {ro cid : Byte} (h : replySpec s.params.replySpec f = some (ro, cid)) :
    arm f s =
      { s with
        cnt :=
          { s.cnt with
            replyTimeout := if s.pending = none then s.cnt.replyTimeout else s.cnt.replyTimeout + 1#16 }
        pending := some
          { replyOpc := ro, corrId := cid, sentUs := s.now
            deadlineUs := s.now + s.params.respTimeoutUs } } := by
  rw [arm, h]
  cases hp : s.pending <;> rfl

theorem timeoutCheck_expired {p : PendingResponse} (hp : s.pending = some p) (hd : p.deadlineUs ≤ s.now) :
    timeoutCheck s = { bump .replyTimeout (setResult .replyTimeout s) with pending := none } := by
  rw [timeoutCheck, hp]; exact if_pos hd

theorem timeoutCheck_waiting (h : ∀ p, s.pending = some p → s.now < p.deadlineUs) : timeoutCheck s = s := by
  rcases timeoutCheck_cases s with ⟨⟨p, hp, hd⟩, -⟩ | ⟨-, heq⟩
  · exact absurd (h p hp) (Nat.not_lt.mpr hd)
  · exact heq

end

/-! ### The queue's cases -/

section
variable {s : State}

theorem drainNext_pop {slot : Slot} {rest : List Slot} (hi : s.inflight = none)
    (hq : s.txq = slot :: rest) (ha : avail s = .netAvailable) :
    drainNext s = { s with txq := rest, inflight := some slot, txb := s.txb ++ slot.frame } := by
  simp only [drainNext, hi, hq, ha, if_true]

theorem drainNext_stay (h : s.inflight ≠ none ∨ s.txq = [] ∨ avail s ≠ .netAvailable) :
    drainNext s = s := by
  rcases drainNext_cases s with ⟨slot, rest, hi, hq, ha, -⟩ | ⟨-, heq⟩
  · simp [hi, hq, ha] at h
  · exact heq

end

/-! ### Outside the carrier-loss check -/

/-- The state with what the carrier-loss check writes put back to its reset value (R217). -/
def sansCarrier (s : State) : State :=
  { s with
    carrierSeen := false, clDeadline := none, clNotify := false, cnt := { s.cnt with carrierLoss := 0#16 } }

/-- Two states that agree outside the carrier-loss check differ in its four elements alone. -/
theorem eq_of_sansCarrier {s t : State} (h : sansCarrier s = sansCarrier t) :
    s =
      { t with
        carrierSeen := s.carrierSeen, clDeadline := s.clDeadline, clNotify := s.clNotify
        cnt := { t.cnt with carrierLoss := s.cnt.carrierLoss } } := by
  calc
    s = { sansCarrier s with
          carrierSeen := s.carrierSeen, clDeadline := s.clDeadline, clNotify := s.clNotify
          cnt := { (sansCarrier s).cnt with carrierLoss := s.cnt.carrierLoss } } := rfl
    _ = _ := by rw [h]; rfl

section
variable (s : State)

theorem sansCarrier_params : (sansCarrier s).params = s.params := rfl
theorem sansCarrier_txOutcome : (sansCarrier s).txOutcome = s.txOutcome := rfl
theorem sansCarrier_inflight : (sansCarrier s).inflight = s.inflight := rfl
theorem sansCarrier_rxb : (sansCarrier s).rxb = s.rxb := rfl
theorem sansCarrier_asmState : (sansCarrier s).asmState = s.asmState := rfl

theorem sansCarrier_carrierCheck : sansCarrier (carrierCheck s) = sansCarrier s := by
  rcases carrierCheck_cases s with ⟨-, heq⟩ | ⟨-, -, heq⟩ | ⟨-, -, heq⟩ <;> rw [heq] <;> rfl

/-! ### The outcome -/

theorem sansCarrier_arm (f : Frame) : sansCarrier (arm f s) = arm f (sansCarrier s) := by
  cases hreply : replySpec s.params.replySpec f with
  | none => rw [arm_of_none hreply, arm_of_none (s := sansCarrier s) hreply]
  | some reply =>
    obtain ⟨ro, cid⟩ := reply
    rw [arm_of_some hreply, arm_of_some (s := sansCarrier s) hreply]; rfl

theorem sansCarrier_handleDone : sansCarrier (handleDone s) = handleDone (sansCarrier s) := by
  rw [handleDone, handleDone, sansCarrier_inflight]
  cases s.inflight with
  | none => rfl
  | some slot => exact sansCarrier_arm _ _

theorem sansCarrier_handleCollided : sansCarrier (handleCollided s) = handleCollided (sansCarrier s) := by
  rw [handleCollided, handleCollided, sansCarrier_inflight]
  cases s.inflight with
  | none => rfl
  | some slot => exact apply_ite sansCarrier _ _ _

theorem sansCarrier_handleOutcome : sansCarrier (handleOutcome s) = handleOutcome (sansCarrier s) := by
  rw [handleOutcome, handleOutcome, sansCarrier_txOutcome]
  cases s.txOutcome with
  | none => rfl
  | done => exact sansCarrier_handleDone s
  | collided => exact sansCarrier_handleCollided s

/-! ### The assembler -/

theorem sansCarrier_complete (f : Frame) : sansCarrier (complete f s) = complete f (sansCarrier s) := by
  cases hv : valid f with
  | true => rw [complete_of_valid hv, complete_of_valid hv]; rfl
  | false => rw [complete_of_not_valid hv, complete_of_not_valid hv]; rfl

theorem sansCarrier_abortPartial : sansCarrier (abortPartial s) = abortPartial (sansCarrier s) := by
  rw [abortPartial, abortPartial, sansCarrier_asmState]
  exact apply_ite sansCarrier _ _ _

theorem sansCarrier_assembleData (b : Byte) :
    sansCarrier (assembleData b s) = assembleData b (sansCarrier s) := by
  rcases assembleData_cases b s with
    ⟨hst, -⟩ | ⟨hst, hb, -⟩ | ⟨hst, hlo, hhi, -⟩ | ⟨hst, hne, -⟩ | ⟨hst, hlen, -⟩
  · rw [assembleData_noise b hst, assembleData_noise (s := sansCarrier s) b hst]; rfl
  · rw [assembleData_badLength b hst hb, assembleData_badLength (s := sansCarrier s) b hst hb]; rfl
  · rw [assembleData_length b hst hlo hhi, assembleData_length (s := sansCarrier s) b hst hlo hhi]; rfl
  · rw [assembleData_payload b hst hne, assembleData_payload (s := sansCarrier s) b hst hne]; rfl
  · rw [assembleData_last b hst hlen, assembleData_last (s := sansCarrier s) b hst hlen]
    exact congrArg asmReset (sansCarrier_complete s _)

theorem sansCarrier_assemble (e : RxEntry) : sansCarrier (assemble e s) = assemble e (sansCarrier s) := by
  rw [assemble, assemble]
  split
  · rfl
  · rw [assembleByte, assembleByte]
    split
    · rw [startFixed, startFixed, ← sansCarrier_abortPartial]; rfl
    · rw [startVariable, startVariable, ← sansCarrier_abortPartial]; rfl
    · exact sansCarrier_assembleData s e.byte

theorem sansCarrier_assembleAll (es : List RxEntry) :
    sansCarrier (assembleAll es s) = assembleAll es (sansCarrier s) := by
  induction es generalizing s with
  | nil => rfl
  | cons e rest ih => exact (ih (assemble e s)).trans (congrArg _ (sansCarrier_assemble s e))

theorem sansCarrier_drainRxb : sansCarrier (drainRxb s) = drainRxb (sansCarrier s) := by
  rw [drainRxb, drainRxb, drainEntries_eq, drainEntries_eq, sansCarrier_rxb, ← sansCarrier_assembleAll]
  rfl

/-! ### The last two steps -/

theorem sansCarrier_timeoutCheck : sansCarrier (timeoutCheck s) = timeoutCheck (sansCarrier s) := by
  rcases timeoutCheck_cases s with ⟨⟨p, hp, hd⟩, heq⟩ | ⟨hwait, heq⟩ <;> rw [heq]
  · rw [timeoutCheck_expired (s := sansCarrier s) hp hd]; rfl
  · exact (timeoutCheck_waiting (s := sansCarrier s) hwait).symm

theorem sansCarrier_drainNext : sansCarrier (drainNext s) = drainNext (sansCarrier s) := by
  rcases drainNext_cases s with ⟨slot, rest, hi, hq, ha, heq⟩ | ⟨hstay, heq⟩ <;> rw [heq]
  · rw [drainNext_pop (s := sansCarrier s) hi hq ha]; rfl
  · exact (drainNext_stay (s := sansCarrier s) hstay).symm

end

/-! ### The whole POLL -/

/-- POLL's steps 3 to 5 (R273 to R275), after the outcome. -/
def pollRest (w : State) : State := drainNext (timeoutCheck (drainRxb w))

theorem pollStep_eq_pollRest (s : State) : pollStep s = pollRest (handleOutcome (carrierCheck s)) := rfl

theorem sansCarrier_pollRest (s : State) : sansCarrier (pollRest s) = pollRest (sansCarrier s) := by
  rw [pollRest, sansCarrier_drainNext, sansCarrier_timeoutCheck, sansCarrier_drainRxb]; rfl

/-- Outside the carrier-loss check a POLL is its other four steps. -/
theorem sansCarrier_pollStep (s : State) :
    sansCarrier (pollStep s) = sansCarrier (pollRest (handleOutcome s)) := by
  rw [pollStep_eq_pollRest, sansCarrier_pollRest, sansCarrier_handleOutcome, sansCarrier_carrierCheck,
    ← sansCarrier_handleOutcome, ← sansCarrier_pollRest]

/-- A POLL leaves what steps 3 to 5 make of the handled outcome, but for the carrier-loss check's elements. -/
theorem exec_poll_of_outcomeHandled {s w : State} (h : OutcomeHandled s w) :
    ∃ seen deadline notify losses, exec .poll s =
      .next
        { pollRest w with
          carrierSeen := seen, clDeadline := deadline, clNotify := notify
          cnt := { (pollRest w).cnt with carrierLoss := losses } } := by
  have hsame : sansCarrier (pollStep s) = sansCarrier (pollRest w) := by
    rw [sansCarrier_pollStep, handleOutcome_of_outcomeHandled h]
  exact ⟨_, _, _, _, congrArg Host.Outcome.next (eq_of_sansCarrier hsame)⟩

end Sys2Proof.Machine
end

section
/-! The transmit queue through a POLL (R233 to R236, R275): what steps 3 to 5 do to the queue, the counters and
the result that the outcome left. -/

namespace Sys2Proof.Machine

/-! ### Steps 3 to 5 -/

section
variable {w : State}

/-- Step 5 finds the queue that the outcome left. -/
theorem queue_beforeDrainNext (w : State) :
    (timeoutCheck (drainRxb w)).inflight = w.inflight ∧ (timeoutCheck (drainRxb w)).txq = w.txq ∧
      (timeoutCheck (drainRxb w)).txb = w.txb := by
  rw [timeoutCheck_frame, drainRxb, drainEntries_frame]
  exact ⟨rfl, rfl, rfl⟩

/-- Step 5 reads Avail() as assembling RXB left it: the timeout check writes nothing that it reads. -/
theorem avail_beforeDrainNext (w : State) :
    avail (timeoutCheck (drainRxb w)) = avail (assembleAll w.rxb w) := by
  rw [timeoutCheck_frame, drainRxb, drainEntries_eq]; rfl

theorem pollRest_pop {slot : Slot} {rest : List Slot} (hi : w.inflight = none)
    (hq : w.txq = slot :: rest) (ha : avail (assembleAll w.rxb w) = .netAvailable) :
    (pollRest w).inflight = some slot ∧ (pollRest w).txq = rest ∧
      (pollRest w).txb = w.txb ++ slot.frame := by
  obtain ⟨hinflight, hqueue, hring⟩ := queue_beforeDrainNext w
  rw [pollRest,
    drainNext_pop (hinflight.trans hi) (hqueue.trans hq) ((avail_beforeDrainNext w).trans ha), hring]
  exact ⟨rfl, rfl, rfl⟩

theorem pollRest_stay
    (h : w.inflight ≠ none ∨ w.txq = [] ∨ avail (assembleAll w.rxb w) ≠ .netAvailable) :
    (pollRest w).inflight = w.inflight ∧ (pollRest w).txq = w.txq ∧ (pollRest w).txb = w.txb := by
  obtain ⟨hinflight, htxq, htxb⟩ := queue_beforeDrainNext w
  rw [pollRest, drainNext_stay (by rwa [hinflight, htxq, avail_beforeDrainNext])]
  exact ⟨hinflight, htxq, htxb⟩

/-- With no slot in flight the queue stays, or gives up its head to inflight and TXB (R233). -/
theorem pollRest_queue (hi : w.inflight = none) :
    ((pollRest w).inflight = none ∧ (pollRest w).txq = w.txq ∧ (pollRest w).txb = w.txb) ∨
    (∃ head rest, w.txq = head :: rest ∧ (pollRest w).inflight = some head ∧ (pollRest w).txq = rest ∧
      (pollRest w).txb = w.txb ++ head.frame) := by
  by_cases ha : avail (assembleAll w.rxb w) = .netAvailable
  · cases hq : w.txq with
    | nil =>
      obtain ⟨hinflight, htxq, htxb⟩ := pollRest_stay (w := w) (.inr (.inl hq))
      exact .inl ⟨hinflight.trans hi, htxq.trans hq, htxb⟩
    | cons head rest => exact .inr ⟨head, rest, rfl, pollRest_pop hi hq ha⟩
  · obtain ⟨hinflight, hrest⟩ := pollRest_stay (w := w) (.inr (.inr ha))
    exact .inl ⟨hinflight.trans hi, hrest⟩

theorem avail_of_gap {s : State} (h : s.idleCount.toNat < s.params.gapMin) : avail s = .busy := by
  rw [avail, if_pos h, ite_self]

/-- Within the inter-frame gap nothing goes in flight: assembling RXB does not move the idle counter. -/
theorem pollRest_inflight_of_gap (hi : w.inflight = none) (hgap : w.idleCount.toNat < w.params.gapMin) :
    (pollRest w).inflight = none := by
  have hbusy : avail (assembleAll w.rxb w) = .busy := by
    rw [← avail_beforeDrainNext]
    apply avail_of_gap
    rw [timeoutCheck_frame, drainRxb, drainEntries_frame]; exact hgap
  obtain ⟨hinflight, -⟩ := pollRest_stay (w := w) (.inr (.inr (by simp [hbusy])))
  exact hinflight.trans hi

/-- Steps 3 to 5 count errors, frames and missed replies of the receive side alone. -/
theorem pollRest_cnt (w : State) :
    (pollRest w).cnt =
      { w.cnt with
        cksumErr := (pollRest w).cnt.cksumErr, framingErr := (pollRest w).cnt.framingErr
        rxFrames := (pollRest w).cnt.rxFrames, replyTimeout := (pollRest w).cnt.replyTimeout } := by
  have hcnt : (pollRest w).cnt = (timeoutCheck (drainRxb w)).cnt := by rw [pollRest, drainNext_frame]
  have hall : (drainRxb w).cnt = (assembleAll w.rxb w).cnt := by rw [drainRxb, drainEntries_eq]
  rw [hcnt, timeoutCheck_cnt, hall, assembleAll_cnt]

theorem pollRest_txOutcome (w : State) : (pollRest w).txOutcome = w.txOutcome := by
  rw [pollRest, drainNext_frame, timeoutCheck_frame, drainRxb, drainEntries_frame]

end

theorem OutcomeHandled.keepsRings {s w : State} (h : OutcomeHandled s w) : w.rxb = s.rxb ∧ w.txb = s.txb := by
  cases h <;> exact ⟨rfl, rfl⟩

/-- Settles O42: step 5 pops the queue that step 2 left, or none of its three conditions allows it. -/
theorem pollDrainsTheOldestSlot : Obligations.PollDrainsTheOldestSlot := by
  intro s w h u
  obtain ⟨hrxb, htxb⟩ := h.keepsRings
  obtain ⟨seen, deadline, notify, losses, hexec⟩ := exec_poll_of_outcomeHandled h
  refine ⟨_, hexec, fun slot rest hi hq ha => ?_, fun hstay => ?_⟩ <;> rw [← htxb]
  · exact pollRest_pop hi hq (by rwa [hrxb])
  · exact pollRest_stay (by rwa [hrxb])

/-! ### The result of a POLL -/

/-- The result register, the pending reply and its counter, every other element at its reset value. -/
def replyView (s : State) : State :=
  { State.resetOf s.params with
    resultCode := s.resultCode, resultSeq := s.resultSeq, pending := s.pending
    cnt := { (State.resetOf s.params).cnt with replyTimeout := s.cnt.replyTimeout } }

section
variable {w : State}

theorem replyView_pollRest (w : State) : replyView (pollRest w) = replyView (timeoutCheck (drainRxb w)) := by
  rw [pollRest, drainNext_frame]; rfl

theorem drainRxb_of_empty (h : w.rxb = []) : drainRxb w = w := by
  rw [drainRxb, h, drainEntries, ← h]

/-- Before the deadline, with nothing received, the result stays what the outcome left. -/
theorem replyView_pollRest_waiting (hrxb : w.rxb = [])
    (h : ∀ p, w.pending = some p → w.now < p.deadlineUs) : replyView (pollRest w) = replyView w := by
  rw [replyView_pollRest, drainRxb_of_empty hrxb, timeoutCheck_waiting h]

theorem replyView_pollRest_expired {p : PendingResponse} (hrxb : w.rxb = []) (hp : w.pending = some p)
    (hd : p.deadlineUs ≤ w.now) :
    replyView (pollRest w) =
      replyView { bump .replyTimeout (setResult .replyTimeout w) with pending := none } := by
  rw [replyView_pollRest, drainRxb_of_empty hrxb, timeoutCheck_expired hp hd]

/-- The frame that RXB holds from its first byte on, if it answers, settles the pending reply (R252, R274). -/
theorem replyView_pollRest_answered {f : Frame} (hst : w.asmState = .waitOpc)
    (hrxb : w.rxb = goodEntries f) (hshape : shapeOK w.params.maxFrame f = true)
    (hvalid : valid f = true) (hsettles : settles f w = true) :
    replyView (pollRest w) = replyView { setResult .replyReceived w with pending := none } := by
  have hsettles' : settles f (asmReset w) = true := hsettles
  have hdrain : drainRxb w = { accepted f (asmReset w) with rxb := [] } := by
    rw [drainRxb, drainEntries_eq, hrxb, assembleAll_frame hst hshape, complete_of_valid hvalid]
  have hnone : (drainRxb w).pending = none := by
    rw [hdrain]; exact if_pos hsettles'
  rw [replyView_pollRest, timeoutCheck_waiting (by simp [hnone]), hdrain]
  simp only [accepted, hsettles', if_true]; rfl

end

/-- Two states of one result agree on its code and number, on the pending reply and on its counter. -/
theorem reply_of_replyView {s t : State} (h : replyView s = replyView t) :
    s.resultCode = t.resultCode ∧ s.resultSeq = t.resultSeq ∧ s.pending = t.pending ∧
      s.cnt.replyTimeout = t.cnt.replyTimeout :=
  ⟨(congrArg State.resultCode h :), (congrArg State.resultSeq h :), (congrArg State.pending h :),
    (congrArg (fun r : State => r.cnt.replyTimeout) h :)⟩

/-! ### What a POLL leaves of an outcome -/

/-- What a POLL leaves of `w`, the state in which its step 2 left the engine: the outcome and the transmit
side's counters, the queue or its tail, and the result that steps 3 to 5 make. -/
structure PollLeaves (w t : State) : Prop where
  txOutcome : t.txOutcome = w.txOutcome
  txFrames : t.cnt.txFrames = w.cnt.txFrames
  dropped : t.cnt.dropped = w.cnt.dropped
  queue : w.inflight = none →
    (t.inflight = none ∧ t.txq = w.txq ∧ t.txb = w.txb) ∨
      (∃ head rest, w.txq = head :: rest ∧ t.inflight = some head ∧ t.txq = rest ∧
        t.txb = w.txb ++ head.frame)
  gap : w.inflight = none → w.idleCount.toNat < w.params.gapMin → t.inflight = none
  reply : replyView t = replyView (pollRest w)

theorem OutcomeHandled.poll {s w : State} (h : OutcomeHandled s w) :
    ∃ t, exec .poll s = .next t ∧ PollLeaves w t := by
  obtain ⟨seen, deadline, notify, losses, hexec⟩ := exec_poll_of_outcomeHandled h
  have hcnt := pollRest_cnt w
  exact ⟨_, hexec,
    { txOutcome := pollRest_txOutcome w
      txFrames := (congrArg Counters.txFrames hcnt :)
      dropped := (congrArg Counters.dropped hcnt :)
      queue := pollRest_queue
      gap := pollRest_inflight_of_gap
      reply := rfl }⟩

theorem PollLeaves.result_waiting {w t : State} (h : PollLeaves w t) (hrxb : w.rxb = [])
    (hwait : ∀ p, w.pending = some p → w.now < p.deadlineUs) :
    t.resultCode = w.resultCode ∧ t.resultSeq = w.resultSeq ∧ t.pending = w.pending ∧
      t.cnt.replyTimeout = w.cnt.replyTimeout :=
  reply_of_replyView (h.reply.trans (replyView_pollRest_waiting hrxb hwait))

theorem PollLeaves.result_expired {w t : State} (h : PollLeaves w t) (hrxb : w.rxb = [])
    {p : PendingResponse} (hp : w.pending = some p) (hd : p.deadlineUs ≤ w.now) :
    t.resultCode = .replyTimeout ∧ t.resultSeq = w.resultSeq + 1#8 ∧ t.pending = none ∧
      t.cnt.replyTimeout = w.cnt.replyTimeout + 1#16 :=
  reply_of_replyView (h.reply.trans (replyView_pollRest_expired hrxb hp hd))

theorem PollLeaves.result_answered {w t : State} (h : PollLeaves w t) {f : Frame}
    (hst : w.asmState = .waitOpc) (hrxb : w.rxb = goodEntries f)
    (hshape : shapeOK w.params.maxFrame f = true) (hvalid : valid f = true) (hsettles : settles f w = true) :
    t.resultCode = .replyReceived ∧ t.resultSeq = w.resultSeq + 1#8 ∧ t.pending = none := by
  obtain ⟨hcode, hseq, hpending, -⟩ :=
    reply_of_replyView (h.reply.trans (replyView_pollRest_answered hst hrxb hshape hvalid hsettles))
  exact ⟨hcode, hseq, hpending⟩

/-- A slot short of the attempts' ceiling counts its collision exactly (R235). -/
theorem toNat_collidedSlot_attempts {slot : Slot} (h : slot.attempts.toNat < 255) :
    (collidedSlot slot).attempts.toNat = slot.attempts.toNat + 1 := by
  rw [collidedSlot, BitVec.toNat_add]
  exact Nat.mod_eq_of_lt (Nat.succ_lt_succ h)

/-- Settles O39: the two outcomes of a collision, and what the POLL leaves of the queue that each one makes. -/
theorem collidedSlotIsRequeuedOrDropped : Obligations.CollidedSlotIsRequeuedOrDropped := by
  intro s slot ho hi hlt
  have hattempts := toNat_collidedSlot_attempts hlt
  by_cases hretry : slot.attempts.toNat + 1 ≤ s.params.maxRetry
  · obtain ⟨t, hexec, ht⟩ :=
      (OutcomeHandled.requeued (s := s) slot (collidedSlot slot) ho hi hretry hattempts rfl).poll
    refine ⟨t, _, hexec, ht.txOutcome, ht.queue rfl, ht.gap rfl,
      fun _ => ⟨⟨collidedSlot slot, rfl, rfl, rfl, rfl, hattempts, rfl⟩, ht.dropped, fun hrxb hp => ?_⟩,
      fun hmax => absurd hretry (Nat.not_le.mpr hmax)⟩
    obtain ⟨hcode, hseq, -⟩ := ht.result_waiting hrxb (by simp [hp])
    exact ⟨hcode, hseq⟩
  · obtain ⟨t, hexec, ht⟩ :=
      (OutcomeHandled.dropped (s := s) slot ho hi hlt (Nat.not_le.mp hretry)).poll
    refine ⟨t, _, hexec, ht.txOutcome, ht.queue rfl, ht.gap rfl, fun hle => absurd hle hretry,
      fun _ => ⟨rfl, ht.dropped, fun hrxb hp => ?_⟩⟩
    obtain ⟨hcode, hseq, -⟩ := ht.result_waiting hrxb (by simp [hp])
    exact ⟨hcode, hseq⟩

/-- Settles O38: step 2 arms for a frame that expects a reply and leaves the pending record for one that does
not; steps 3 to 5 then time the record out, or settle it, or do neither. -/
theorem sentFrameArmsTheCorrelator : Obligations.SentFrameArmsTheCorrelator := by
  intro s slot hok ho hi
  have htimeout : 1 ≤ s.params.respTimeoutUs := by
    obtain ⟨-, -, -, -, -, -, -, -, -, -, -, h, -⟩ := hok
    exact h
  cases hreply : replySpec s.params.replySpec slot.frame with
  | none =>
    obtain ⟨t, hexec, ht⟩ := (OutcomeHandled.sent slot ho hi hreply).poll
    refine ⟨t, hexec, ht.txOutcome, ht.txFrames, ht.queue rfl, nofun, fun hrxb _ hwait => ?_,
      fun p hrxb _ hp hd => ?_, nofun⟩
    · exact ht.result_waiting hrxb hwait
    · obtain ⟨hcode, hseq, hrest⟩ := ht.result_expired hrxb hp hd
      exact ⟨hcode, hseq.trans (BitVec.add_assoc _ _ _), hrest⟩
  | some reply =>
    obtain ⟨ro, cid⟩ := reply
    obtain ⟨t, hexec, ht⟩ := (OutcomeHandled.armed slot ro cid ho hi hreply).poll
    refine ⟨t, hexec, ht.txOutcome, ht.txFrames, ht.queue rfl, ?_, nofun, nofun, ?_⟩
    · rintro ro cid hrxb ⟨⟩
      refine ht.result_waiting hrxb ?_
      rintro p ⟨⟩
      exact Nat.lt_add_of_pos_right htimeout
    · rintro ro cid f ⟨⟩ hst hrxb hshape hvalid hhead hkey
      obtain ⟨hcode, hseq, hpending⟩ := ht.result_answered hst hrxb hshape hvalid
        (settles_iff.mpr ⟨_, rfl, hhead, hkey⟩)
      exact ⟨hcode, hseq.trans (BitVec.add_assoc _ _ _), hpending⟩

end Sys2Proof.Machine
end

section
/-! The body check of SUBMIT, spelled out (R230): what its five conditions ask of a body whose check byte is
still to come (R175, R176). -/

namespace Sys2Proof.Machine

section
variable {maxFrame : Nat} {opc : Byte} {rest : Frame}

theorem encodeFrame_cons (opc : Byte) (rest : Frame) :
    encodeFrame (opc :: rest) = opc :: (rest ++ [checkByte (opc :: rest)]) := rfl

/-- R175 asks nothing of the check byte of an opcode and data bytes, which is a data byte itself (R106). -/
theorem shapeOK_encodeFrame_cons_iff :
    shapeOK maxFrame (encodeFrame (opc :: rest)) = true ↔
      rest.length + 2 ≤ maxFrame ∧ opc.getLsbD 7 = true ∧ (∀ d ∈ rest, d.getLsbD 7 = false) ∧
      frameLength (encodeFrame (opc :: rest)) = some (rest.length + 2) ∧
      (decodeLength opc = .variableLen → 3 ≤ ((rest ++ [checkByte (opc :: rest)]).headD 0x00#8).toNat) := by
  rw [encodeFrame_cons, shapeOK_cons_iff, List.length_append, List.length_singleton]
  refine ⟨fun ⟨_, hmax, hopc, hdata, hlen, hvar⟩ => ?_, fun ⟨hmax, hopc, hdata, hlen, hvar⟩ => ?_⟩
  · exact ⟨hmax, hopc, (List.forall_mem_append.mp hdata).1, hlen, hvar⟩
  · exact ⟨by simp, hmax, hopc,
      List.forall_mem_append.mpr ⟨hdata, List.forall_mem_singleton.mpr (getLsbD_checkByte hopc hdata)⟩,
      hlen, hvar⟩

theorem wellFormedBody_cons_iff :
    wellFormedBody maxFrame (opc :: rest) = true ↔ shapeOK maxFrame (encodeFrame (opc :: rest)) = true := by
  rw [wellFormedBody_iff, List.length_cons]
  refine ⟨fun ⟨_, _, hshape⟩ => hshape, fun hshape => ?_⟩
  obtain ⟨hmax, -⟩ := shapeOK_encodeFrame_cons_iff.mp hshape
  exact ⟨by omega, by omega, hshape⟩

/-- A fixed class fixes the length of the body: one byte less than the frame (R170, R176). -/
theorem wellFormedBody_fixed_iff {n : Nat} (hmax : 6 ≤ maxFrame) (h : decodeLength opc = .fixed n) :
    wellFormedBody maxFrame (opc :: rest) = true ↔
      (∀ d ∈ rest, d.getLsbD 7 = false) ∧ rest.length + 1 = n - 1 := by
  obtain ⟨hlo, hhi⟩ := fixed_of_decodeLength h
  have hopc : opc.getLsbD 7 = true := getLsbD_of_decodeLength (by simp [h])
  have hlen : frameLength (encodeFrame (opc :: rest)) = some n := by simp [encodeFrame_cons, frameLength, h]
  rw [wellFormedBody_cons_iff, shapeOK_encodeFrame_cons_iff, hlen, h, Option.some.injEq]
  refine ⟨fun ⟨_, _, hdata, hn, _⟩ => ⟨hdata, by omega⟩, fun ⟨hdata, hn⟩ => ?_⟩
  exact ⟨by omega, hopc, hdata, by omega, nofun⟩

/-- The variable class has its length, check byte included, in its second byte; a body of the opcode alone
would have the check byte there, and it would be 2 (R103, R193). -/
theorem wellFormedBody_variable_iff (h : decodeLength opc = .variableLen) :
    wellFormedBody maxFrame (opc :: rest) = true ↔
      (∀ d ∈ rest, d.getLsbD 7 = false) ∧
      ∃ len, rest.head? = some len ∧ len.toNat = rest.length + 2 ∧ 3 ≤ len.toNat ∧ len.toNat ≤ maxFrame := by
  have hopc : opc.getLsbD 7 = true := getLsbD_of_decodeLength (by simp [h])
  rw [wellFormedBody_cons_iff, shapeOK_encodeFrame_cons_iff, encodeFrame_cons]
  cases rest with
  | nil =>
    simp only [frameLength, h, hopc, List.nil_append, List.head?_cons, List.headD_cons, Option.map_some,
      Option.some.injEq, List.length_nil, List.head?_nil, forall_const]
    refine ⟨fun ⟨_, _, _, htwo, hthree⟩ => by omega, fun ⟨_, _, hnone, _⟩ => nomatch hnone⟩
  | cons len tail =>
    simp only [frameLength, h, hopc, List.cons_append, List.head?_cons, List.headD_cons, Option.map_some,
      Option.some.injEq, forall_const]
    refine ⟨fun ⟨hmax, _, hdata, hlen, hlo⟩ => ⟨hdata, len, rfl, hlen, hlo, by omega⟩, ?_⟩
    rintro ⟨hdata, _, rfl, hlen, hlo, hmax⟩
    exact ⟨by omega, trivial, hdata, hlen, hlo⟩

end

/-- Settles O13: by the length class of the first byte. -/
theorem wellFormedBodySpelledOut : Obligations.WellFormedBodySpelledOut := by
  intro maxFrame b hmax _
  cases b with
  | nil => simp [wellFormedBody]
  | cons opc rest =>
    cases hclass : decodeLength opc with
    | fixed n =>
      have hopc : opc.getLsbD 7 = true := getLsbD_of_decodeLength (by simp [hclass])
      rw [wellFormedBody_fixed_iff hmax hclass]
      constructor
      · rintro ⟨hdata, hlen⟩
        exact ⟨opc, rest, rfl, hopc, hdata, .inl ⟨n, hclass, hlen⟩⟩
      · rintro ⟨_, _, ⟨⟩, -, hdata, ⟨m, hm, hlen⟩ | ⟨hvar, -⟩⟩
        · cases hclass.symm.trans hm
          exact ⟨hdata, hlen⟩
        · cases hclass.symm.trans hvar
    | variableLen =>
      have hopc : opc.getLsbD 7 = true := getLsbD_of_decodeLength (by simp [hclass])
      rw [wellFormedBody_variable_iff hclass]
      constructor
      · rintro ⟨hdata, hlen⟩
        exact ⟨opc, rest, rfl, hopc, hdata, .inr ⟨hclass, hlen⟩⟩
      · rintro ⟨_, _, ⟨⟩, -, hdata, ⟨m, hm, -⟩ | ⟨-, hlen⟩⟩
        · cases hclass.symm.trans hm
        · exact ⟨hdata, hlen⟩
    | notOpcode =>
      have hdata : opc.getLsbD 7 = false := decodeLength_eq_notOpcode.mp hclass
      rw [wellFormedBody_cons_iff, shapeOK_encodeFrame_cons_iff]
      constructor
      · rintro ⟨-, hopc, -⟩
        cases hdata.symm.trans hopc
      · rintro ⟨_, _, ⟨⟩, hopc, -⟩
        cases hdata.symm.trans hopc

end Sys2Proof.Machine
end

section
/-! SUBMIT and FLUSH (R230 to R232, R237, R238, R281): the queue from the host's side. -/

namespace Sys2Proof.Machine

/-! ### SUBMIT -/

section
variable {s : State} {body : Frame} (prio : Bool)

theorem enqueue_of_malformed (h : wellFormedBody s.params.maxFrame body = false) :
    enqueue body prio s = respond [statusRejectedInvalid] s := by
  rw [enqueue, if_pos (by simp [h])]; rfl

theorem enqueue_of_full (h : wellFormedBody s.params.maxFrame body = true)
    (hfull : s.params.txqCap ≤ occupancy s) : enqueue body prio s = respond [statusRejectedFull] s := by
  rw [enqueue, if_neg (by simp [h]), if_pos hfull]; rfl

theorem enqueue_of_room (h : wellFormedBody s.params.maxFrame body = true)
    (hroom : occupancy s < s.params.txqCap) :
    enqueue body prio s =
      respond [statusQueued]
        { s with
          txq := s.txq ++
            [{ frame := encodeFrame body, prio := prio, enqUs := s.now, attempts := 0x00#8,
               lastFail := .none }] } := by
  rw [enqueue, if_neg (by simp [h]), if_neg (Nat.not_le.mpr hroom)]

theorem occupancy_eq (s : State) :
    occupancy s = s.txq.length + (if s.inflight = none then 0 else 1) := by
  rw [occupancy]; cases s.inflight <;> rfl

/-- The two values of flags that R114 admits. -/
theorem flags_of_toNat_lt_two {flags : Byte} (h : flags.toNat < 2) : flags = 0x00#8 ∨ flags = 0x01#8 := by
  bv_omega

/-- The operands R114 admits reach the queue with the PRIO flag (R281). -/
theorem exec_submit_of_legal {flags : Byte} (hflags : flags.toNat < 2) (hlo : 1 ≤ body.length)
    (hmax : body.length ≤ s.params.maxFrame - 1) (hbyte : body.length ≤ 255) :
    exec (.submit flags body) s = .next (enqueue body (flags == 0x01#8) s) := by
  have hread : readSubmit s.params flags body = some (flags == 0x01#8) := by
    rcases flags_of_toNat_lt_two hflags with rfl | rfl <;> simp [readSubmit, hlo, hmax, hbyte]
  rw [exec, execSubmit, hread]

end

/-- Settles O43: the three cases of the queue, in R231's order. -/
theorem submitQueuesOrRejects : Obligations.SubmitQueuesOrRejects := by
  intro s flags body hflags hlo hmax hbyte used
  have hused : occupancy s = used := occupancy_eq s
  rw [exec_submit_of_legal hflags hlo hmax hbyte]
  refine ⟨fun hbad => ?_, fun hwf hfull => ?_, fun hwf hroom => ?_⟩
  · rw [enqueue_of_malformed _ hbad]; rfl
  · rw [enqueue_of_full _ hwf (hused ▸ hfull)]; rfl
  · rw [enqueue_of_room _ hwf (hused ▸ hroom), encodeFrame, checkByte_eq_not]; rfl

/-! ### Several SUBMITs -/

theorem afterSubmits_cons {s : State} {b : Frame} (hok : s.params.Ok)
    (hwf : wellFormedBody s.params.maxFrame b = true) (rest : List Frame) :
    afterSubmits (b :: rest) s =
      ((enqueue b false s).response ++ (afterSubmits rest (enqueue b false s)).1,
        (afterSubmits rest (enqueue b false s)).2) := by
  have hexec : exec (.submit 0x00#8 b) s = .next (enqueue b false s) :=
    exec_submit_of_wellFormedBody b false hok hwf
  rw [afterSubmits, hexec]

/-- With `room` places free the first `room` bodies are queued behind what waits, and the rest rejected. -/
theorem afterSubmits_of_room {s : State} {bodies : List Frame} {room : Nat} (hok : s.params.Ok)
    (hroom : occupancy s + room = s.params.txqCap)
    (hwf : ∀ b ∈ bodies, wellFormedBody s.params.maxFrame b = true) :
    (afterSubmits bodies s).1 =
        List.replicate (min bodies.length room) 0x01#8 ++ List.replicate (bodies.length - room) 0x02#8 ∧
      (afterSubmits bodies s).2.txq.map Slot.frame =
        s.txq.map Slot.frame ++ (bodies.take room).map encodeFrame := by
  induction bodies generalizing s room with
  | nil => simp [afterSubmits]
  | cons b rest ih =>
    obtain ⟨hb, hrest⟩ := List.forall_mem_cons.mp hwf
    rw [afterSubmits_cons hok hb]
    cases room with
    | zero =>
      rw [enqueue_of_full _ hb (by omega)]
      obtain ⟨hstatus, hqueue⟩ := ih (s := respond [statusRejectedFull] s) (room := 0) hok hroom hrest
      rw [hstatus, hqueue]
      simp [statusRejectedFull, List.replicate_succ]
    | succ room =>
      have hqueued := enqueue_of_room false hb (by omega)
      have hone : occupancy (enqueue b false s) = occupancy s + 1 := by
        rw [hqueued, occupancy, respond_txq, List.length_append, Nat.add_right_comm]; rfl
      have hfree : occupancy (enqueue b false s) + room = s.params.txqCap := by omega
      have hparams : (enqueue b false s).params = s.params := by rw [hqueued]; rfl
      rw [← hparams] at hok hfree hrest
      obtain ⟨hstatus, hqueue⟩ := ih hok hfree hrest
      rw [hstatus, hqueue, hqueued]
      simp [statusQueued, List.replicate_succ]

/-- Settles O44: an empty queue with no slot in flight has TXQ_CAP places. -/
theorem queueIsBoundedFifo : Obligations.QueueIsBoundedFifo := by
  intro s bodies hok hq hi hwf
  have hempty : occupancy s = 0 := by rw [occupancy_eq, hq, hi]; rfl
  have h := afterSubmits_of_room hok (room := s.params.txqCap) (by omega) hwf
  rwa [hq, List.map_nil, List.nil_append] at h

/-! ### FLUSH -/

/-- Settles O45: FLUSH is the empty queue and the answer OK. -/
theorem flushEmptiesTheQueueOnly : Obligations.FlushEmptiesTheQueueOnly := by
  intro s
  rw [exec, execFlush]; rfl

end Sys2Proof.Machine
end

section
/-! The pending reply through a POLL (R252, R253, R274): assembling the entries of RXB settles it or leaves it,
and the timeout check, which comes after, meets only one that is left. -/

namespace Sys2Proof.Machine

/-! ### One entry -/

/-- The entry completes a valid frame that answers `p` (R196, R252). -/
def AnsweredBy (e : RxEntry) (p : PendingResponse) (s : State) : Prop :=
  CompletesValidFrame e s ∧ (s.asmBuf ++ [e.byte]).head? = some p.replyOpc ∧
    matchKey s.params.matchKey (s.asmBuf ++ [e.byte]) = p.corrId

section
variable {e : RxEntry} {s : State}

/-- The completing byte hands the valid frame over (R195, R196). -/
theorem assemble_of_completes (h : CompletesValidFrame e s) :
    assemble e s = asmReset (accepted (s.asmBuf ++ [e.byte]) s) := by
  obtain ⟨hgood, hdata, hst, hlen, hvalid⟩ := h
  simp only [assemble, hgood, Bool.false_eq_true, if_false, assembleByte,
    decodeLength_eq_notOpcode.mpr hdata]
  rw [assembleData_last _ hst hlen, complete_of_valid hvalid]

theorem replyView_abortPartial (s : State) : replyView (abortPartial s) = replyView s := by
  rcases abortPartial_cases s with ⟨-, heq⟩ | ⟨-, heq⟩ <;> rw [heq]
  rfl

/-- Only a completed valid frame is correlated (R196): no other entry touches the pending reply. -/
theorem replyView_assemble_of_not_completes (h : ¬ CompletesValidFrame e s) :
    replyView (assemble e s) = replyView s := by
  rcases assemble_cases e s with ⟨-, heq⟩ | ⟨hgood, heq⟩ <;> rw [heq]
  · rfl
  · rcases assembleByte_cases e.byte s with ⟨n, -, heq⟩ | ⟨-, heq⟩ | ⟨hdata, heq⟩ <;> rw [heq]
    · exact replyView_abortPartial s
    · exact replyView_abortPartial s
    · rcases assembleData_cases e.byte s with
        ⟨-, heq⟩ | ⟨-, -, heq⟩ | ⟨-, -, -, heq⟩ | ⟨-, -, heq⟩ | ⟨hst, hlen, -⟩
      iterate 4
        · rw [heq]; rfl
      · have hinvalid : valid (s.asmBuf ++ [e.byte]) = false :=
          Bool.eq_false_iff.mpr fun hv => h ⟨hgood, decodeLength_eq_notOpcode.mp hdata, hst, hlen, hv⟩
        rw [assembleData_last _ hst hlen, complete_of_not_valid hinvalid]; rfl

theorem replyView_assemble_of_answeredBy {p : PendingResponse} (hp : s.pending = some p)
    (h : AnsweredBy e p s) :
    replyView (assemble e s) = replyView { setResult .replyReceived s with pending := none } := by
  obtain ⟨hdone, hanswers⟩ := h
  have hsettles : settles (s.asmBuf ++ [e.byte]) s = true := settles_iff.mpr ⟨p, hp, hanswers⟩
  rw [assemble_of_completes hdone]
  simp only [accepted, hsettles, if_true]; rfl

/-- An entry that answers no pending reply leaves the result register and the record (R252). -/
theorem replyView_assemble_of_not_answeredBy (h : ∀ p, s.pending = some p → ¬ AnsweredBy e p s) :
    replyView (assemble e s) = replyView s := by
  by_cases hdone : CompletesValidFrame e s
  · have hnot : settles (s.asmBuf ++ [e.byte]) s = false := by
      rw [← Bool.not_eq_true, settles_iff]
      rintro ⟨p, hp, hanswers⟩
      exact h p hp ⟨hdone, hanswers⟩
    rw [assemble_of_completes hdone]
    simp only [accepted, hnot, Bool.false_eq_true, if_false]; rfl
  · exact replyView_assemble_of_not_completes hdone

end

/-! ### The entries of RXB -/

theorem not_answered_nil (p : PendingResponse) (s : State) : ¬ Answered [] p s := by
  rintro ⟨before, e, later, hes, -⟩
  cases before <;> cases hes

/-- The first of the entries answers, or one of the others, in the state that the first leaves. -/
theorem answered_cons_iff {e : RxEntry} {rest : List RxEntry} {p : PendingResponse} {s : State} :
    Answered (e :: rest) p s ↔ AnsweredBy e p s ∨ Answered rest p (assemble e s) := by
  constructor
  · rintro ⟨before, c, later, hes, hdone, hanswers⟩
    cases before with
    | nil => cases hes; exact .inl ⟨hdone, hanswers⟩
    | cons b before =>
      cases hes
      exact .inr ⟨before, c, later, rfl, hdone, by rw [assemble_params]; exact hanswers⟩
  · rintro (⟨hdone, hanswers⟩ | ⟨before, c, later, hes, hdone, hanswers⟩)
    · exact ⟨[], e, rest, rfl, hdone, hanswers⟩
    · rw [assemble_params] at hanswers
      exact ⟨e :: before, c, later, congrArg (e :: ·) hes, hdone, hanswers⟩

/-- Settling writes the result register and the record as functions of what they were (R274). -/
theorem replyView_settled_congr {s t : State} (h : replyView s = replyView t) :
    replyView { setResult .replyReceived s with pending := none } =
      replyView { setResult .replyReceived t with pending := none } :=
  congrArg (fun r : State => { setResult .replyReceived r with pending := none }) h

section
variable {es : List RxEntry} {s : State}

/-- Entries that answer no pending reply, in particular where none is pending, leave the result. -/
theorem replyView_assembleAll_of_not_answered (h : ∀ p, s.pending = some p → ¬ Answered es p s) :
    replyView (assembleAll es s) = replyView s := by
  induction es generalizing s with
  | nil => rfl
  | cons e rest ih =>
    have hfirst : replyView (assemble e s) = replyView s :=
      replyView_assemble_of_not_answeredBy fun p hp he => h p hp (answered_cons_iff.mpr (.inl he))
    have hpending : (assemble e s).pending = s.pending := (congrArg State.pending hfirst :)
    exact (ih fun p hp hrest =>
      h p (hpending.symm.trans hp) (answered_cons_iff.mpr (.inr hrest))).trans hfirst

/-- The first entry that answers settles the reply, and nothing is pending for the entries after it. -/
theorem replyView_assembleAll_of_answered {p : PendingResponse} (hp : s.pending = some p)
    (h : Answered es p s) :
    replyView (assembleAll es s) = replyView { setResult .replyReceived s with pending := none } := by
  induction es generalizing s with
  | nil => exact absurd h (not_answered_nil p s)
  | cons e rest ih =>
    by_cases he : AnsweredBy e p s
    · have hfirst := replyView_assemble_of_answeredBy hp he
      have hnone : (assemble e s).pending = none := (congrArg State.pending hfirst :)
      exact (replyView_assembleAll_of_not_answered (s := assemble e s) (by simp [hnone])).trans hfirst
    · have hfirst : replyView (assemble e s) = replyView s :=
        replyView_assemble_of_not_answeredBy (by simpa [hp] using he)
      have hpending : (assemble e s).pending = some p := (congrArg State.pending hfirst :).trans hp
      exact (ih hpending ((answered_cons_iff.mp h).resolve_left he)).trans
        (replyView_settled_congr hfirst)

end

/-! ### Steps 3 to 5 -/

section
variable {w : State} {p : PendingResponse}

theorem replyView_drainRxb (w : State) : replyView (drainRxb w) = replyView (assembleAll w.rxb w) := by
  rw [drainRxb, drainEntries_eq]; rfl

theorem now_drainRxb (w : State) : (drainRxb w).now = w.now := by
  rw [drainRxb, drainEntries_frame]

/-- Nothing answered and nothing due, in particular where nothing is pending: the POLL leaves the result. -/
theorem replyView_pollRest_unanswered (h : ∀ p, w.pending = some p → ¬ Answered w.rxb p w)
    (hwait : ∀ p, w.pending = some p → w.now < p.deadlineUs) : replyView (pollRest w) = replyView w := by
  have hdrain : replyView (drainRxb w) = replyView w :=
    (replyView_drainRxb w).trans (replyView_assembleAll_of_not_answered h)
  have hpending : (drainRxb w).pending = w.pending := (congrArg State.pending hdrain :)
  rw [replyView_pollRest, timeoutCheck_waiting (by rwa [hpending, now_drainRxb]), hdrain]

/-- Timing out writes the result register, the record and the counter as functions of what they were (R253). -/
theorem replyView_timedOut_congr {s t : State} (h : replyView s = replyView t) :
    replyView { bump .replyTimeout (setResult .replyTimeout s) with pending := none } =
      replyView { bump .replyTimeout (setResult .replyTimeout t) with pending := none } :=
  congrArg (fun r : State => { bump .replyTimeout (setResult .replyTimeout r) with pending := none }) h

/-- Nothing answered by the deadline: event E11 (R253). -/
theorem replyView_pollRest_due (hp : w.pending = some p) (h : ¬ Answered w.rxb p w)
    (hd : p.deadlineUs ≤ w.now) :
    replyView (pollRest w) =
      replyView { bump .replyTimeout (setResult .replyTimeout w) with pending := none } := by
  have hdrain : replyView (drainRxb w) = replyView w :=
    (replyView_drainRxb w).trans (replyView_assembleAll_of_not_answered (by simpa [hp] using h))
  have hpending : (drainRxb w).pending = some p := (congrArg State.pending hdrain :).trans hp
  rw [replyView_pollRest, timeoutCheck_expired hpending (by rwa [now_drainRxb])]
  exact replyView_timedOut_congr hdrain

/-- A reply found in RXB is settled before the deadline is tested (R274). -/
theorem replyView_pollRest_settled (hp : w.pending = some p) (h : Answered w.rxb p w) :
    replyView (pollRest w) = replyView { setResult .replyReceived w with pending := none } := by
  have hdrain := (replyView_drainRxb w).trans (replyView_assembleAll_of_answered hp h)
  have hnone : (drainRxb w).pending = none := (congrArg State.pending hdrain :)
  rw [replyView_pollRest, timeoutCheck_waiting (by simp [hnone]), hdrain]

end

theorem OutcomeHandled.keepsClock {s w : State} (h : OutcomeHandled s w) : w.now = s.now := by
  cases h <;> rfl

/-- What a POLL that ends with the reply view of `u` leaves of the record, the result and the counter. -/
theorem PollLeaves.reply_eq {w t u : State} (h : PollLeaves w t) (hu : replyView (pollRest w) = replyView u) :
    t.pending = u.pending ∧ t.resultCode = u.resultCode ∧ t.resultSeq = u.resultSeq ∧
      t.cnt.replyTimeout = u.cnt.replyTimeout := by
  obtain ⟨hcode, hseq, hpending, hcount⟩ := reply_of_replyView (h.reply.trans hu)
  exact ⟨hpending, hcode, hseq, hcount⟩

/-- Settles O40: an answer in RXB, or none with the deadline reached, or none before it. -/
theorem replyTimeoutAtTheDeadline : Obligations.ReplyTimeoutAtTheDeadline := by
  intro s w h
  obtain ⟨hrxb, -⟩ := h.keepsRings
  obtain ⟨t, hexec, ht⟩ := h.poll
  rw [← hrxb, ← h.keepsClock]
  refine ⟨t, hexec, ht.txFrames, ht.dropped, fun hnone => ?_, fun p hp => ?_⟩
  · obtain ⟨hpending, hresult⟩ :=
      ht.reply_eq (replyView_pollRest_unanswered (by simp [hnone]) (by simp [hnone]))
    exact ⟨hpending.trans hnone, hresult⟩
  · refine ⟨fun ha => ht.reply_eq (replyView_pollRest_settled hp ha),
      fun ha hd => ht.reply_eq (replyView_pollRest_due hp ha hd), fun ha hwait => ?_⟩
    obtain ⟨hpending, hresult⟩ := ht.reply_eq
      (replyView_pollRest_unanswered (by simpa [hp] using ha) (by simpa [hp] using hwait))
    exact ⟨hpending.trans hp, hresult⟩

end Sys2Proof.Machine
end

section
/-! What a whole POLL does beside the outcome, the queue and the reply (R270 to R278): its step 3 alone
assembles, and what is TICK's or the host's stays. -/

namespace Sys2Proof.Machine

/-! ### What the wire rows read and write -/

/-- What the wire rows read and write apart from the correlator (the assembler's elements, the backoff event with
its draws, and what a frame or a framing error is recorded in), every other element at its reset value. -/
def wireView (s : State) : State :=
  { State.resetOf s.params with
    sinkEn := s.sinkEn, asmState := s.asmState, asmBuf := s.asmBuf, asmExpect := s.asmExpect
    lastEvent := s.lastEvent, backoffR := s.backoffR, draws := s.draws, dispatch := s.dispatch
    cnt :=
      { (State.resetOf s.params).cnt with
        cksumErr := s.cnt.cksumErr, framingErr := s.cnt.framingErr, rxFrames := s.cnt.rxFrames } }

section
variable (s : State)

theorem wireView_asmState : (wireView s).asmState = s.asmState := rfl

theorem wireView_complete (f : Frame) : wireView (complete f s) = complete f (wireView s) := by
  cases hv : valid f with
  | true => rw [complete_of_valid hv, complete_of_valid hv]; rfl
  | false => rw [complete_of_not_valid hv, complete_of_not_valid hv]; rfl

theorem wireView_abortPartial : wireView (abortPartial s) = abortPartial (wireView s) := by
  rw [abortPartial, abortPartial, wireView_asmState]
  exact apply_ite wireView _ _ _

theorem wireView_assembleData (b : Byte) :
    wireView (assembleData b s) = assembleData b (wireView s) := by
  rcases assembleData_cases b s with
    ⟨hst, heq⟩ | ⟨hst, hb, heq⟩ | ⟨hst, hlo, hhi, heq⟩ | ⟨hst, hne, heq⟩ | ⟨hst, hlen, -⟩
  · rw [heq, assembleData_noise (s := wireView s) b hst]; rfl
  · rw [heq, assembleData_badLength (s := wireView s) b hst hb]; rfl
  · rw [heq, assembleData_length (s := wireView s) b hst hlo hhi]; rfl
  · rw [heq, assembleData_payload (s := wireView s) b hst hne]; rfl
  · rw [assembleData_last b hst hlen, assembleData_last (s := wireView s) b hst hlen]
    exact congrArg asmReset (wireView_complete s _)

/-- Assembling an entry works within the view: what it leaves there does not depend on the rest, nor on the
reply that is pending (R190 to R197). -/
theorem wireView_assemble (e : RxEntry) : wireView (assemble e s) = assemble e (wireView s) := by
  rw [assemble, assemble]
  split
  · rfl
  · rw [assembleByte, assembleByte]
    split
    · rw [startFixed, startFixed, ← wireView_abortPartial]; rfl
    · rw [startVariable, startVariable, ← wireView_abortPartial]; rfl
    · exact wireView_assembleData s e.byte

theorem wireView_assembleAll (es : List RxEntry) :
    wireView (assembleAll es s) = assembleAll es (wireView s) := by
  induction es generalizing s with
  | nil => rfl
  | cons e rest ih => exact (ih (assemble e s)).trans (congrArg _ (wireView_assemble s e))

/-! ### POLL's steps -/

theorem wireView_carrierCheck : wireView (carrierCheck s) = wireView s := by
  rcases carrierCheck_cases s with ⟨-, heq⟩ | ⟨-, -, heq⟩ | ⟨-, -, heq⟩ <;> rw [heq] <;> rfl

theorem wireView_handleOutcome : wireView (handleOutcome s) = wireView s := by
  rw [handleOutcome_frame, handleOutcome_cnt]; rfl

theorem wireView_drainRxb : wireView (drainRxb s) = wireView (assembleAll s.rxb s) := by
  rw [drainRxb, drainEntries_eq]; rfl

theorem wireView_timeoutCheck : wireView (timeoutCheck s) = wireView s := by
  rw [timeoutCheck_frame, timeoutCheck_cnt]; rfl

theorem wireView_drainNext : wireView (drainNext s) = wireView s := by
  rw [drainNext_frame]; rfl

theorem rxb_beforeAssembly : (handleOutcome (carrierCheck s)).rxb = s.rxb := by
  rw [handleOutcome_frame, carrierCheck_frame]

/-- A POLL leaves what assembling the entries of RXB leaves, whatever its other steps have to do (R273). -/
theorem wireView_pollStep : wireView (pollStep s) = wireView (assembleAll s.rxb s) := by
  calc
    wireView (pollStep s)
      = wireView (drainRxb (handleOutcome (carrierCheck s))) := by
          rw [pollStep, wireView_drainNext, wireView_timeoutCheck]
    _ = assembleAll s.rxb (wireView (handleOutcome (carrierCheck s))) := by
          rw [wireView_drainRxb, wireView_assembleAll, rxb_beforeAssembly]
    _ = assembleAll s.rxb (wireView s) := by
          rw [wireView_handleOutcome, wireView_carrierCheck]
    _ = wireView (assembleAll s.rxb s) := (wireView_assembleAll s s.rxb).symm

end

/-- States of one wire view agree on the assembler, DISPATCH, the backoff event and the receive counters. -/
theorem assembly_of_wireView {s t : State} (h : wireView s = wireView t) :
    s.asmState = t.asmState ∧ s.asmBuf = t.asmBuf ∧ s.asmExpect = t.asmExpect ∧ s.dispatch = t.dispatch ∧
      s.lastEvent = t.lastEvent ∧ s.backoffR = t.backoffR ∧ s.draws = t.draws ∧
      s.cnt.cksumErr = t.cnt.cksumErr ∧ s.cnt.framingErr = t.cnt.framingErr ∧
      s.cnt.rxFrames = t.cnt.rxFrames :=
  ⟨(congrArg State.asmState h :), (congrArg State.asmBuf h :), (congrArg State.asmExpect h :),
    (congrArg State.dispatch h :), (congrArg State.lastEvent h :), (congrArg State.backoffR h :),
    (congrArg State.draws h :), (congrArg (fun r : State => r.cnt.cksumErr) h :),
    (congrArg (fun r : State => r.cnt.framingErr) h :), (congrArg (fun r : State => r.cnt.rxFrames) h :)⟩

/-- Settles O5: taking the record changes nothing that assembling reads, and the rows are the assembler. -/
theorem pollStepRunsTheWireRows : Obligations.PollStepRunsTheWireRows := by
  intro s r rest bs hin hdec hrxb
  have hview : wireView (pollStep (issue r rest s)) = wireView (assembleAll (goodEntries bs) s) := by
    calc
      wireView (pollStep (issue r rest s))
        = assembleAll s.rxb (wireView s) := by
            rw [wireView_pollStep, wireView_assembleAll]; rfl
      _ = wireView (assembleAll (goodEntries bs) s) := by rw [wireView_assembleAll, hrxb]
  obtain ⟨hstate, hbuf, hexpect, hdispatch, hevent, hbackoff, hdraws, hcksum, hframing, hframes⟩ :=
    assembly_of_wireView hview
  exact ⟨_, _, step_of_decode hin hdec, afterOps_wireRows bs s, hstate, hbuf, hexpect, hdispatch, hevent,
    hbackoff, hdraws, hframes, hcksum, hframing⟩

/-! ### What POLL leaves alone -/

/-- The state with what a POLL can write put back to its reset value (R278). -/
def sansPoll (s : State) : State :=
  { s with
    lastEvent := .msg, backoffR := 0#16, draws := 0, txOutcome := .none
    carrierSeen := false, clDeadline := none, clNotify := false
    txq := [], inflight := none, txb := [], rxb := []
    asmState := .waitOpc, asmBuf := [], asmExpect := 0x00#8
    pending := none, resultCode := .none, resultSeq := 0x00#8
    cnt := (State.resetOf s.params).cnt, dispatch := [] }

/-- Two states that agree on what no POLL writes differ in the elements that one can write alone. -/
theorem eq_of_sansPoll {t s : State} (h : sansPoll t = sansPoll s) :
    t =
      { s with
        lastEvent := t.lastEvent, backoffR := t.backoffR, draws := t.draws, txOutcome := t.txOutcome
        carrierSeen := t.carrierSeen, clDeadline := t.clDeadline, clNotify := t.clNotify
        txq := t.txq, inflight := t.inflight, txb := t.txb, rxb := t.rxb
        asmState := t.asmState, asmBuf := t.asmBuf, asmExpect := t.asmExpect
        pending := t.pending, resultCode := t.resultCode, resultSeq := t.resultSeq
        cnt := t.cnt, dispatch := t.dispatch } := by
  calc
    t = { sansPoll t with
          lastEvent := t.lastEvent, backoffR := t.backoffR, draws := t.draws, txOutcome := t.txOutcome
          carrierSeen := t.carrierSeen, clDeadline := t.clDeadline, clNotify := t.clNotify
          txq := t.txq, inflight := t.inflight, txb := t.txb, rxb := t.rxb
          asmState := t.asmState, asmBuf := t.asmBuf, asmExpect := t.asmExpect
          pending := t.pending, resultCode := t.resultCode, resultSeq := t.resultSeq
          cnt := t.cnt, dispatch := t.dispatch } := rfl
    _ = _ := by rw [h]; rfl

section
variable (s : State)

theorem sansPoll_carrierCheck : sansPoll (carrierCheck s) = sansPoll s := by
  rw [carrierCheck_frame]; rfl

theorem sansPoll_handleOutcome : sansPoll (handleOutcome s) = sansPoll s := by
  rw [handleOutcome_frame]; rfl

theorem sansPoll_drainRxb : sansPoll (drainRxb s) = sansPoll s := by
  rw [drainRxb, drainEntries_frame]; rfl

theorem sansPoll_timeoutCheck : sansPoll (timeoutCheck s) = sansPoll s := by
  rw [timeoutCheck_frame]; rfl

theorem sansPoll_drainNext : sansPoll (drainNext s) = sansPoll s := by
  rw [drainNext_frame]; rfl

/-- None of the five steps writes an element of the timer context or of the host. -/
theorem sansPoll_pollStep : sansPoll (pollStep s) = sansPoll s := by
  rw [pollStep, sansPoll_drainNext, sansPoll_timeoutCheck, sansPoll_drainRxb, sansPoll_handleOutcome,
    sansPoll_carrierCheck]

theorem rxb_pollStep : (pollStep s).rxb = [] := by
  rw [pollStep, drainNext_frame, timeoutCheck_frame, drainRxb, drainEntries_frame]

theorem txOutcome_pollStep : (pollStep s).txOutcome = .none := by
  rw [pollStep_eq_pollRest, pollRest_txOutcome, handleOutcome_frame]

theorem carrierCheck_cnt :
    (carrierCheck s).cnt = { s.cnt with carrierLoss := (carrierCheck s).cnt.carrierLoss } := by
  rcases carrierCheck_cases s with ⟨-, heq⟩ | ⟨-, -, heq⟩ | ⟨-, -, heq⟩ <;> rw [heq]
  rfl

/-- Collisions and overruns are TICK's to count (R64). -/
theorem pollStep_cnt :
    (pollStep s).cnt =
      { (pollStep s).cnt with collision := s.cnt.collision, rxOverrun := s.cnt.rxOverrun } := by
  rw [pollStep_eq_pollRest, pollRest_cnt, handleOutcome_cnt, carrierCheck_cnt]

end

/-- Settles O37: the view of step 3, the two elements a POLL always clears, and what none of its steps writes. -/
theorem pollDrainsAndKeepsTheRest : Obligations.PollDrainsAndKeepsTheRest := by
  intro s
  have hframe := eq_of_sansPoll (sansPoll_pollStep s)
  rw [rxb_pollStep, txOutcome_pollStep] at hframe
  exact ⟨pollStep s, rfl, rxb_pollStep s, txOutcome_pollStep s,
    assembly_of_wireView (wireView_pollStep s), pollStep_cnt s, hframe⟩

/-! ### A reply in RXB -/

/-- Settles O41: step 3 settles the reply, so step 4 finds none pending. -/
theorem replyInRingBeatsItsDeadline : Obligations.ReplyInRingBeatsItsDeadline := by
  intro s p f _ ho hst hrxb hshape hvalid hp hopc hkey
  have hsettles : settles f s = true := settles_iff.mpr ⟨p, hp, hopc, hkey⟩
  obtain ⟨t, hexec, ht⟩ := (OutcomeHandled.nothing ho).poll
  exact ⟨t, hexec, ht.reply_eq (replyView_pollRest_answered hst hrxb hshape hvalid hsettles)⟩

end Sys2Proof.Machine
end

section
/-! The host commands (R280 to R290): a command's operands are legal exactly where their reader answers
(R114), and what each command then does. -/

namespace Sys2Proof.Machine

/-! ### The operand checks -/

theorem wellFormed_config_iff {p : Params} {cfg : Byte} :
    (Instr.config cfg).wellFormed p = true ↔ cfg.toNat < 4 := by
  simp only [Instr.wellFormed, beq_iff_eq]
  revert cfg; decide

theorem wellFormed_setSink_iff {p : Params} {en : Byte} :
    (Instr.setSink en).wellFormed p = true ↔ en.toNat < 2 := by
  simp only [Instr.wellFormed, Bool.or_eq_true, beq_iff_eq]
  revert en; decide

theorem wellFormed_readCounter_iff {p : Params} {idx : Byte} :
    (Instr.readCounter idx).wellFormed p = true ↔ idx.toNat ≤ 8 := decide_eq_true_iff

/-- Flags bits 7:1 are 0 (R114) in the two values 0x00 and 0x01. -/
theorem flags_reserved_iff {flags : Byte} : flags &&& 0xFE#8 = 0x00#8 ↔ flags.toNat < 2 := by
  revert flags; decide

theorem wellFormed_submit_iff {p : Params} {flags : Byte} {body : Frame} :
    (Instr.submit flags body).wellFormed p = true ↔
      flags.toNat < 2 ∧ 1 ≤ body.length ∧ body.length ≤ p.maxFrame - 1 ∧ body.length ≤ 255 := by
  simp only [Instr.wellFormed, Bool.and_eq_true, beq_iff_eq, decide_eq_true_eq, flags_reserved_iff, and_assoc]

theorem isSome_readSubmit (p : Params) (flags : Byte) (body : Frame) :
    (readSubmit p flags body).isSome = (Instr.submit flags body).wellFormed p := by
  rw [Bool.eq_iff_iff, wellFormed_submit_iff, readSubmit, ← flags_reserved_iff]
  split
  · next h => exact iff_of_true rfl h
  · next h => exact iff_of_false Bool.false_ne_true h

theorem isSome_readConfig (p : Params) (cfg : Byte) :
    (readConfig cfg).isSome = (Instr.config cfg).wellFormed p := by
  rw [readConfig, Instr.wellFormed]
  split <;> simpa

theorem isSome_readSink (p : Params) (en : Byte) :
    (readSink en).isSome = (Instr.setSink en).wellFormed p := by
  rw [readSink, Instr.wellFormed]
  split
  · simp [*]
  · split <;> simp [*]

theorem isSome_readIndex (p : Params) (idx : Byte) :
    (readIndex idx).isSome = (Instr.readCounter idx).wellFormed p := by
  rw [Instr.wellFormed]; revert idx; decide

/-! ### ILLEGAL or answered -/

/-- Operands that R114 refuses make a command ILLEGAL before any effect (R280, R289). -/
theorem exec_of_not_wellFormed {i : Instr} {s : State} (h : ¬ i.wellFormed s.params = true) :
    exec i s = .next (respond [0x0F#8] s) := by
  cases i with
  | submit flags body =>
    have hread : readSubmit s.params flags body = none := by simpa [← isSome_readSubmit] using h
    rw [exec, execSubmit, hread]; rfl
  | config cfg =>
    have hread : readConfig cfg = none := by simpa [← isSome_readConfig] using h
    rw [exec, execConfig, hread]; rfl
  | setSink en =>
    have hread : readSink en = none := by simpa [← isSome_readSink] using h
    rw [exec, execSetSink, hread]; rfl
  | readCounter idx =>
    have hread : readIndex idx = none := by simpa [← isSome_readIndex] using h
    rw [exec, execReadCounter, hread]; rfl
  | _ => exact absurd rfl h

/-- The state's response has a status other than ILLEGAL (R112). -/
def AnsweredLegally (s : State) : Prop := ∃ status data, s.response = status :: data ∧ status ≠ 0x0F#8

theorem answeredLegally_respond {status : Byte} (h : status ≠ 0x0F#8) (data : List Byte) (s : State) :
    AnsweredLegally (respond (status :: data) s) := ⟨status, data, rfl, h⟩

theorem answeredLegally_enqueue (body : Frame) (prio : Bool) (s : State) :
    AnsweredLegally (enqueue body prio s) := by
  rcases enqueue_cases body prio s with ⟨-, heq⟩ | ⟨-, -, heq⟩ | ⟨-, -, heq⟩ <;> rw [heq]
  all_goals exact answeredLegally_respond (by decide) _ _

/-- A host command whose operands R114 admits answers another status. -/
theorem exec_of_wellFormed {i : Instr} {s : State} (hhost : isHostCommand i)
    (h : i.wellFormed s.params = true) : ∃ t, exec i s = .next t ∧ AnsweredLegally t := by
  have hok : statusOk ≠ 0x0F#8 := by decide
  cases i with
  | submit flags body =>
    rw [← isSome_readSubmit, Option.isSome_iff_exists] at h
    obtain ⟨prio, hread⟩ := h
    exact ⟨_, by rw [exec, execSubmit, hread], answeredLegally_enqueue body prio s⟩
  | config cfg =>
    rw [← isSome_readConfig, Option.isSome_iff_exists] at h
    obtain ⟨⟨inv, speed⟩, hread⟩ := h
    exact ⟨_, by rw [exec, execConfig, hread], answeredLegally_respond hok _ _⟩
  | setSink en =>
    rw [← isSome_readSink, Option.isSome_iff_exists] at h
    obtain ⟨on, hread⟩ := h
    exact ⟨_, by rw [exec, execSetSink, hread], answeredLegally_respond hok _ _⟩
  | readCounter idx =>
    rw [← isSome_readIndex, Option.isSome_iff_exists] at h
    obtain ⟨c, hread⟩ := h
    exact ⟨_, by rw [exec, execReadCounter, hread], answeredLegally_respond hok _ _⟩
  | flush | readResult | readStatus | reset => exact ⟨_, rfl, answeredLegally_respond hok _ _⟩
  | _ => cases hhost

/-! ### Host records -/

/-- R114's legal records are those that decode to a command with admitted operands. -/
theorem legalHostRecord_iff {p : Params} {code : Byte} {operands : List Byte} :
    LegalHostRecord p.maxFrame code operands ↔
      ∃ i, decodeHost code operands = .ok i ∧ i.wellFormed p = true := by
  constructor
  · intro h
    cases h with
    | submit flags n body hflags hlen hlo hmax =>
      have hn := n.isLt
      exact ⟨.submit flags body, if_pos hlen,
        wellFormed_submit_iff.mpr ⟨hflags, by omega, by omega, by omega⟩⟩
    | config cfg hcfg => exact ⟨.config cfg, rfl, wellFormed_config_iff.mpr hcfg⟩
    | setSink en hen => exact ⟨.setSink en, rfl, wellFormed_setSink_iff.mpr hen⟩
    | readCounter idx hidx => exact ⟨.readCounter idx, rfl, wellFormed_readCounter_iff.mpr hidx⟩
    | flush | readResult | readStatus | reset => exact ⟨_, rfl, rfl⟩
  · rintro ⟨i, hdec, hwf⟩
    obtain ⟨-, hrec⟩ := recordOf_of_decodeHost hdec 0
    cases i with
    | submit flags body =>
      obtain ⟨hflags, hlo, hmax, hbyte⟩ := wellFormed_submit_iff.mp hwf
      have hlen : (BitVec.ofNat 8 body.length).toNat = body.length := by
        rw [BitVec.toNat_ofNat, Nat.mod_eq_of_lt (by omega)]
      cases hrec
      exact .submit flags _ body hflags hlen.symm (by omega) (by omega)
    | config cfg => cases hrec; exact .config cfg (wellFormed_config_iff.mp hwf)
    | setSink en => cases hrec; exact .setSink en (wellFormed_setSink_iff.mp hwf)
    | readCounter idx => cases hrec; exact .readCounter idx (wellFormed_readCounter_iff.mp hwf)
    | flush | readResult | readStatus | reset => cases hrec; constructor
    | _ => cases hrec

theorem isHostCommand_of_decodeHost {code : Byte} {operands : List Byte} {i : Instr}
    (h : decodeHost code operands = .ok i) : isHostCommand i := by
  obtain ⟨-, hrec⟩ := recordOf_of_decodeHost h 0
  obtain ⟨port, hport, heq⟩ := Option.map_eq_some_iff.mp hrec
  cases heq; exact hport

/-- Settles O8: an ILLEGAL record does not decode, or decodes to a command that refuses its operands. -/
theorem illegalHostRecordChangesNothing : Obligations.IllegalHostRecordChangesNothing := by
  intro s code operands now rest hin
  refine ⟨fun hbad => ?_, fun hlegal => ?_⟩
  · cases hdec : decodeHost code operands with
    | ok i =>
      have hwf : ¬ i.wellFormed s.params = true := fun hwf => hbad (legalHostRecord_iff.mpr ⟨i, hdec, hwf⟩)
      exact (step_of_decode hin hdec).trans (exec_of_not_wellFormed hwf)
    | error e =>
      have hrec : decode { port := .host, code := code, operands := operands, now := now } = .error e := hdec
      simp only [step, hin, hrec]; rfl
  · obtain ⟨i, hdec, hwf⟩ := legalHostRecord_iff.mp hlegal
    obtain ⟨t, hexec, status, data, hresp, hne⟩ :=
      exec_of_wellFormed (s := issue _ rest s) (isHostCommand_of_decodeHost hdec) hwf
    exact ⟨t, status, data, (step_of_decode hin hdec).trans hexec, hresp, hne⟩

end Sys2Proof.Machine
end

section
/-! The host commands one by one (R283 to R288), and what none of them touches (R290). -/

namespace Sys2Proof.Machine

/-! ### CONFIG -/

/-- The operand byte of R37 reads back as its two bits. -/
theorem readConfig_ofNat (inv speed : Bool) :
    readConfig (BitVec.ofNat 8 (inv.toNat + 2 * speed.toNat)) = some (inv, speed) := by
  revert inv speed; decide

theorem exec_config_of_read {cfg : Byte} {inv speed : Bool} (h : readConfig cfg = some (inv, speed))
    (s : State) :
    exec (.config cfg) s = .next { s with cfgInvSh := inv, cfgSpeedSh := speed, response := [0x00#8] } := by
  rw [exec, execConfig, h]; rfl

/-- Settles O46: the tick after the command latches the shadows it wrote. -/
theorem configTakesEffectAtTheNextTick : Obligations.ConfigTakesEffectAtTheNextTick := by
  intro s inv speed reserved cfg
  have hconfig := exec_config_of_read (readConfig_ofNat inv speed) s
  refine ⟨hconfig, fun x => ?_, fun hres => ?_⟩
  · obtain ⟨t, htick, hinv, hspeed, -⟩ :=
      tickLatchesAndKeepsTheRest x { s with cfgInvSh := inv, cfgSpeedSh := speed, response := [0x00#8] }
    exact ⟨t, by simp only [afterOps, cfg, hconfig, htick], hinv, hspeed⟩
  · exact exec_of_not_wellFormed fun hwf => Nat.not_lt.mpr hres (wellFormed_config_iff.mp hwf)

/-! ### READ_RESULT -/

/-- Settles O47: R62's number of each code. -/
theorem readResultReportsTheLatest : Obligations.ReadResultReportsTheLatest := by
  intro s
  refine ⟨(resultNumber s.resultCode).setWidth 8, rfl, ?_⟩
  cases s.resultCode <;> rfl

/-! ### READ_STATUS -/

theorem toNat_lineCode (l : LineState) :
    (lineCode l).toNat =
      match l with
      | .idle => 0
      | .transmitting => 1
      | .collisionDetected => 2 := by
  cases l <;> rfl

/-- AVAIL's number, with R210's two ways of being Busy together. -/
theorem toNat_availCode_avail (s : State) :
    (availCode (avail s)).toNat =
      if s.lineState ≠ .idle ∨ s.txBitpos ≠ none ∨ s.rxBitpos ≠ none ∨
          s.idleCount.toNat < s.params.gapMin then 0
      else if s.idleCount.toNat < s.params.gapMin + backoffWindow s then 1
      else 2 := by
  by_cases hbusy : s.lineState ≠ .idle ∨ s.txBitpos ≠ none ∨ s.rxBitpos ≠ none
  · rw [avail, if_pos hbusy, if_pos (by tauto)]; rfl
  · obtain ⟨hl, hp, hr⟩ : s.lineState = .idle ∧ s.txBitpos = none ∧ s.rxBitpos = none := by
      simpa only [not_or, not_not] using hbusy
    rw [avail_of_quiet hl hp hr]
    simp only [hl, hp, hr, ne_eq, not_true_eq_false, false_or]
    split
    · rfl
    · split <;> rfl

/-- The two low fields of STATUS byte 0 (R65). -/
theorem statusByte0_codes (s : State) :
    (statusByte0 s).extractLsb' 0 2 = lineCode s.lineState ∧
    (statusByte0 s).extractLsb' 2 2 = availCode (avail s) := by
  rw [statusByte0]
  exact ⟨BitVec.extractLsb'_append_eq_right,
    (BitVec.extractLsb'_append_eq_of_le (le_refl 2)).trans BitVec.extractLsb'_append_eq_right⟩

/-- The four flags of STATUS byte 0 (R65). -/
theorem statusByte0_flags (s : State) :
    (statusByte0 s).getLsbD 4 = s.clNotify ∧ (statusByte0 s).getLsbD 5 = s.pending.isSome ∧
    (statusByte0 s).getLsbD 6 = s.inflight.isSome ∧ (statusByte0 s).getLsbD 7 = s.sinkEn := by
  simp only [statusByte0, BitVec.getLsbD_append]
  simp

theorem toNat_statusByte1 {s : State} (h : s.txq.length ≤ 255) : (statusByte1 s).toNat = s.txq.length := by
  rw [statusByte1, BitVec.toNat_ofNat, Nat.mod_eq_of_lt (by omega)]

/-- The fields of STATUS byte 2 (R65). -/
theorem statusByte2_fields (s : State) :
    (statusByte2 s).getLsbD 0 = s.cfgInv ∧ (statusByte2 s).getLsbD 1 = s.speedSel ∧
    (statusByte2 s).getLsbD 2 = s.cfgInvSh ∧ (statusByte2 s).getLsbD 3 = s.cfgSpeedSh ∧
    ((statusByte2 s).extractLsb' 4 4).toNat = 0 := by
  rw [statusByte2]
  generalize s.cfgSpeedSh = a, s.cfgInvSh = b, s.speedSel = c, s.cfgInv = d
  revert a b c d; decide

/-- Settles O48: the bytes are those of R65, read back field by field. -/
theorem readStatusFieldByField : Obligations.ReadStatusFieldByField := by
  intro s hlen
  obtain ⟨hline, havail⟩ := statusByte0_codes s
  obtain ⟨hcln, hpend, hinfl, hsink⟩ := statusByte0_flags s
  refine ⟨statusByte0 s, statusByte1 s, statusByte2 s, rfl, ?_, ?_, hcln, hpend, hinfl, hsink,
    toNat_statusByte1 hlen, statusByte2_fields s⟩
  · rw [hline]; exact toNat_lineCode s.lineState
  · rw [havail]; exact toNat_availCode_avail s

/-! ### SET_SINK -/

/-- Settles O49: the two operands that read as a flag, and the others, which R114 refuses. -/
theorem setSinkRegistersTheConsumer : Obligations.SetSinkRegistersTheConsumer := fun _ =>
  ⟨rfl, rfl, fun _ hen => exec_of_not_wellFormed
    fun hwf => Nat.not_lt.mpr hen (wellFormed_setSink_iff.mp hwf)⟩

/-! ### READ_COUNTER -/

/-- The counters by index (R64). -/
theorem readIndex_ofNat (idx : Fin 9) (n : Counters) :
    ∃ c, readIndex (BitVec.ofNat 8 idx.val) = some c ∧
      [n.cksumErr.toNat, n.framingErr.toNat, n.collision.toNat, n.dropped.toNat, n.replyTimeout.toNat,
        n.carrierLoss.toNat, n.rxOverrun.toNat, n.rxFrames.toNat, n.txFrames.toNat][idx.val]? =
          some (n.get c).toNat := by
  fin_cases idx <;> exact ⟨_, rfl, rfl⟩

/-- A 16-bit word is its low byte and 256 times its high byte (R83). -/
theorem toNat_of_bytes (v : Half) :
    v.toNat = (v.extractLsb' 0 8).toNat + 256 * (v.extractLsb' 8 8).toNat := by
  have hv := v.isLt
  simp only [BitVec.extractLsb'_toNat, Nat.shiftRight_eq_div_pow]
  omega

/-- Settles O50: the index names a counter, and the answer is its two bytes. -/
theorem readCounterLowByteFirst : Obligations.ReadCounterLowByteFirst := by
  refine fun s => ⟨fun beyond hb => ?_, fun idx => ?_⟩
  · exact exec_of_not_wellFormed fun hwf => Nat.not_le.mpr hb (wellFormed_readCounter_iff.mp hwf)
  · obtain ⟨c, hread, hget⟩ := readIndex_ofNat idx s.cnt
    refine ⟨(s.cnt.get c).extractLsb' 0 8, (s.cnt.get c).extractLsb' 8 8, ?_, ?_⟩
    · rw [exec, execReadCounter, hread]; rfl
    · rw [hget, toNat_of_bytes]

/-! ### RESET -/

/-- Settles O51: the reset state of the same parameters, but for what R288 and R342 except. -/
theorem resetRestoresTheResetState : Obligations.ResetRestoresTheResetState :=
  fun s => ⟨respond [statusOk] (resetEngine s), rfl, rfl⟩

/-! ### The two contexts -/

/-- The state with other values in the rings, the assembler's elements and tx_outcome (R290). -/
def withContexts (txb : List Byte) (rxb : List RxEntry) (st : AsmState) (buf : Frame) (expect : Byte)
    (o : TxOutcome) (s : State) : State :=
  { s with txb := txb, rxb := rxb, asmState := st, asmBuf := buf, asmExpect := expect, txOutcome := o }

section
variable (txb : List Byte) (rxb : List RxEntry) (st : AsmState) (buf : Frame) (expect : Byte)
  (o : TxOutcome) (s : State)

/-- The queue's cases are decided by TXQ, the slot in flight and the parameters (R231, R232). -/
theorem enqueue_withContexts (body : Frame) (prio : Bool) :
    enqueue body prio (withContexts txb rxb st buf expect o s) =
      withContexts txb rxb st buf expect o (enqueue body prio s) := by
  rcases enqueue_cases body prio s with ⟨hwf, heq⟩ | ⟨hwf, hfull, heq⟩ | ⟨hwf, hroom, heq⟩ <;> rw [heq]
  · exact enqueue_of_malformed prio hwf
  · exact enqueue_of_full prio hwf hfull
  · exact enqueue_of_room prio hwf hroom

theorem exec_withContexts {i : Instr} (hhost : isHostCommand i) (hreset : i ≠ .reset) :
    exec i (withContexts txb rxb st buf expect o s) =
      mapNext (withContexts txb rxb st buf expect o) (exec i s) := by
  cases i with
  | submit flags body =>
    simp only [exec, execSubmit, mapNext]
    have hparams : (withContexts txb rxb st buf expect o s).params = s.params := rfl
    rw [hparams]
    cases readSubmit s.params flags body with
    | some prio => exact congrArg _ (enqueue_withContexts txb rxb st buf expect o s body prio)
    | none => rfl
  | config cfg => simp only [exec, execConfig]; cases readConfig cfg <;> rfl
  | setSink en => simp only [exec, execSetSink]; cases readSink en <;> rfl
  | readCounter idx => simp only [exec, execReadCounter]; cases readIndex idx <;> rfl
  | flush | readResult | readStatus => rfl
  | reset => exact absurd rfl hreset
  | _ => cases hhost

end

/-- Settles O55: the operand readers and the queue look at no element of the two contexts. -/
theorem hostCommandsIgnoreTheContexts : Obligations.HostCommandsIgnoreTheContexts :=
  fun _ s txb rxb st buf expect o hhost hreset => exec_withContexts txb rxb st buf expect o s hhost hreset

end Sys2Proof.Machine
end

section
/-! What one operation can do, port by port, and who writes which element (R90, R321, R323). -/

namespace Sys2Proof.Machine

/-! ### The effect of an operation -/

/-- What a host command other than RESET can do (R281 to R287): a response, and the elements it writes. -/
inductive HostEffect (s : State) : Instr → State → Prop where
  | answered (i : Instr) (bytes : List Byte) : HostEffect s i (respond bytes s)
  | queued (flags : Byte) (body : Frame) (q : List Slot) :
      HostEffect s (.submit flags body) (respond [statusQueued] { s with txq := q })
  | flushed : HostEffect s .flush (respond [statusOk] (flushQueue s))
  | configured (cfg : Byte) (inv speed : Bool) :
      HostEffect s (.config cfg) (respond [statusOk] { s with cfgInvSh := inv, cfgSpeedSh := speed })
  | acknowledged (bytes : List Byte) :
      HostEffect s .readStatus (respond bytes { s with clNotify := false })
  | registered (en : Byte) (on : Bool) :
      HostEffect s (.setSink en) (respond [statusOk] { s with sinkEn := on })

/-- What an operation can do: a wire row, a host command, RESET, TICK, POLL. -/
inductive Effect (s : State) : Instr → State → Prop where
  | wireRow (i : Instr) : portOf i = none →
      Effect s i (assemble { err := false, byte := codeOf i } s)
  | host (i : Instr) (t : State) : portOf i = some .host → i ≠ .reset → HostEffect s i t → Effect s i t
  | reset : Effect s .reset (respond [statusOk] (resetEngine s))
  | tick (x : Level) : Effect s (.tick x) (tickStep x s)
  | poll : Effect s .poll (pollStep s)

theorem hostEffect_enqueue (flags : Byte) (body : Frame) (prio : Bool) (s : State) :
    HostEffect s (.submit flags body) (enqueue body prio s) := by
  rcases enqueue_cases body prio s with ⟨-, heq⟩ | ⟨-, -, heq⟩ | ⟨-, -, heq⟩ <;> rw [heq]
  · exact .answered _ _
  · exact .answered _ _
  · exact .queued flags body _

theorem exec_hostEffect {i : Instr} (hhost : portOf i = some .host) (hreset : i ≠ .reset) (s : State) :
    ∃ t, exec i s = .next t ∧ HostEffect s i t := by
  cases i with
  | submit flags body =>
    refine ⟨_, rfl, ?_⟩
    split
    · exact hostEffect_enqueue flags body _ s
    · exact .answered _ _
  | flush => exact ⟨_, rfl, .flushed⟩
  | config cfg =>
    refine ⟨_, rfl, ?_⟩
    split
    · exact .configured cfg _ _
    · exact .answered _ _
  | readResult => exact ⟨_, rfl, .answered _ _⟩
  | readStatus => exact ⟨_, rfl, .acknowledged _⟩
  | setSink en =>
    refine ⟨_, rfl, ?_⟩
    split
    · exact .registered en _
    · exact .answered _ _
  | readCounter idx =>
    refine ⟨_, rfl, ?_⟩
    split <;> exact .answered _ _
  | reset => exact absurd rfl hreset
  | _ => cases hhost

/-- Every operation answers a next state, in every state (R301). -/
theorem exec_effect (i : Instr) (s : State) : ∃ t, exec i s = .next t ∧ Effect s i t := by
  cases hport : portOf i with
  | none => exact ⟨_, exec_wireRow hport s, .wireRow i hport⟩
  | some port =>
    cases port with
    | host =>
      by_cases hreset : i = .reset
      · subst hreset; exact ⟨_, rfl, .reset⟩
      · obtain ⟨t, hexec, heffect⟩ := exec_hostEffect hport hreset s
        exact ⟨t, hexec, .host i t hport hreset heffect⟩
    | timer =>
      cases i with
      | tick x => exact ⟨_, rfl, .tick x⟩
      | _ => cases hport
    | polling =>
      cases i with
      | poll => exact ⟨_, rfl, .poll⟩
      | _ => cases hport

/-! ### The timer context's writes -/

/-- The timer context's own elements and counters (R323), every other element at its reset value. -/
def timerView (s : State) : State :=
  { State.resetOf s.params with
    cfgInv := s.cfgInv, speedSel := s.speedSel, lineState := s.lineState, txBitpos := s.txBitpos
    txByte := s.txByte, rxBitpos := s.rxBitpos, rxShift := s.rxShift, prevL := s.prevL, drive := s.drive
    idleCount := s.idleCount
    cnt :=
      { (State.resetOf s.params).cnt with collision := s.cnt.collision, rxOverrun := s.cnt.rxOverrun } }

/-- What TICK does to the elements it shares with the polling context (R323): it sets tx_outcome and
carrier_seen, takes from TXB's head and appends to RXB. -/
structure TimerShares (s t : State) : Prop where
  outcome : t.txOutcome = s.txOutcome ∨ t.txOutcome ≠ .none
  seen : s.carrierSeen = true → t.carrierSeen = true
  taken : ∃ gone, s.txb = gone ++ t.txb
  heard : ∃ more, t.rxb = s.rxb ++ more

theorem TimerShares.of_eq {s t : State} (hout : t.txOutcome = s.txOutcome)
    (hseen : t.carrierSeen = s.carrierSeen) (htxb : t.txb = s.txb) (hrxb : t.rxb = s.rxb) :
    TimerShares s t :=
  ⟨.inl hout, fun h => hseen.trans h, ⟨[], htxb.symm⟩, ⟨[], by rw [hrxb, List.append_nil]⟩⟩

theorem TimerShares.trans {s t u : State} (hst : TimerShares s t) (htu : TimerShares t u) :
    TimerShares s u where
  outcome := by
    rcases htu.outcome with hu | hu
    · rw [hu]; exact hst.outcome
    · exact .inr hu
  seen := fun h => htu.seen (hst.seen h)
  taken := by
    obtain ⟨first, hfirst⟩ := hst.taken
    obtain ⟨second, hsecond⟩ := htu.taken
    exact ⟨first ++ second, by rw [hfirst, hsecond, List.append_assoc]⟩
  heard := by
    obtain ⟨first, hfirst⟩ := hst.heard
    obtain ⟨second, hsecond⟩ := htu.heard
    exact ⟨first ++ second, by rw [hsecond, hfirst, List.append_assoc]⟩

section
variable (s : State)

/-- A byte goes out: the only way a part of a tick takes from TXB, but for a collision's flush. -/
theorem timerShares_takeByte {t : State} {c : Byte} {rest : List Byte} (hb : s.txb = c :: rest)
    (hout : t.txOutcome = s.txOutcome) (hseen : t.carrierSeen = s.carrierSeen) (htxb : t.txb = rest)
    (hrxb : t.rxb = s.rxb) : TimerShares s t :=
  ⟨.inl hout, fun h => hseen.trans h, ⟨[c], by rw [hb, htxb]; rfl⟩, ⟨[], by rw [hrxb, List.append_nil]⟩⟩

theorem timerShares_frameStart (av : Availability) : TimerShares s (frameStart av s) := by
  rcases frameStart_cases av s with ⟨c, rest, -, hb, -, heq⟩ | ⟨-, heq⟩ <;> rw [heq]
  · exact timerShares_takeByte s hb rfl rfl rfl rfl
  · exact .of_eq rfl rfl rfl rfl

theorem timerShares_frameDone : TimerShares s (frameDone s) :=
  ⟨.inr (by simp [frameDone]), id, ⟨[], rfl⟩, ⟨[], (List.append_nil s.rxb).symm⟩⟩

/-- A collision flushes the whole of TXB (R144). -/
theorem timerShares_collide : TimerShares s (collide s) :=
  ⟨.inr (by simp [collide]), id, ⟨s.txb, by simp [collide]⟩, ⟨[], (List.append_nil s.rxb).symm⟩⟩

theorem timerShares_txAdvance (p : TxBit) : TimerShares s (txAdvance p s) := by
  rcases txAdvance_cases p s with ⟨q, -, -, heq⟩ | ⟨c, rest, -, hb, heq⟩ | ⟨-, -, heq⟩ <;> rw [heq]
  · exact .of_eq rfl rfl rfl rfl
  · exact timerShares_takeByte s hb rfl rfl rfl rfl
  · exact timerShares_frameDone s

theorem timerShares_transmit (p : TxBit) (l : Level) : TimerShares s (transmit p l s) := by
  have hdrive : TimerShares s (driveBit (txLevel s.txByte p) s) := .of_eq rfl rfl rfl rfl
  rw [transmit_eq_driveBit]
  split
  · exact hdrive.trans (timerShares_txAdvance _ p)
  · exact hdrive.trans (timerShares_collide _)

theorem timerShares_pushRxb (e : RxEntry) : TimerShares s (pushRxb e s) := by
  rcases pushRxb_cases e s with ⟨-, heq⟩ | ⟨-, heq⟩ <;> rw [heq]
  · exact ⟨.inl rfl, id, ⟨[], rfl⟩, ⟨[e], rfl⟩⟩
  · exact .of_eq rfl rfl rfl rfl

theorem timerShares_receive (l : Level) : TimerShares s (receive l s) := by
  rcases receive_cases l s with ⟨-, -, -, heq⟩ | ⟨-, -, heq⟩ | ⟨k, -, heq⟩ | ⟨-, heq⟩ <;> rw [heq]
  · exact .of_eq rfl rfl rfl rfl
  · exact .of_eq rfl rfl rfl rfl
  · exact .of_eq rfl rfl rfl rfl
  · obtain ⟨hout, hseen, htaken, hheard⟩ :=
      timerShares_pushRxb { s with drive := !s.cfgInv } { err := !l, byte := s.rxShift }
    exact ⟨hout, hseen, htaken, hheard⟩

theorem timerShares_endTick (l : Level) (active : Bool) : TimerShares s (endTick l active s) := by
  rw [endTick_frame]
  exact ⟨.inl rfl, fun h => by simp [h], ⟨[], rfl⟩, ⟨[], (List.append_nil s.rxb).symm⟩⟩

/-- The parts of a tick in turn (R140). -/
theorem timerShares_tickStep (x : Level) : TimerShares s (tickStep x s) := by
  have hend : TimerShares s (endCollision (latchConfig s)) := by
    rw [endCollision_frame]; exact .of_eq rfl rfl rfl rfl
  rcases tickStep_cases x s with ⟨p, -, heq⟩ | ⟨-, -, heq⟩ <;> rw [heq]
  · have hstart := hend.trans (timerShares_frameStart _ (avail (latchConfig s)))
    exact (hstart.trans (timerShares_transmit _ p _)).trans (timerShares_endTick _ _ _)
  · exact (hend.trans (timerShares_receive _ _)).trans (timerShares_endTick _ _ _)

/-! ### POLL's writes -/

/-- Step 2 pushes a collided slot, or nothing (R235). -/
theorem handleOutcome_pushes :
    ∃ pushed, (handleOutcome s).txq = s.txq ++ pushed ∧ pushed.length ≤ 1 := by
  have hkeep {t : State} (h : t.txq = s.txq) : ∃ pushed, t.txq = s.txq ++ pushed ∧ pushed.length ≤ 1 :=
    ⟨[], by rw [h, List.append_nil], Nat.zero_le 1⟩
  rw [handleOutcome]
  split
  · exact hkeep rfl
  · exact hkeep (by rw [handleDone_frame])
  · rcases handleCollided_cases s with ⟨-, heq⟩ | ⟨slot, -, -, heq⟩ | ⟨slot, -, -, heq⟩ <;> rw [heq]
    · exact hkeep rfl
    · exact hkeep rfl
    · exact ⟨[collidedSlot slot], rfl, le_rfl⟩

/-- Step 5 pops the head of TXQ into TXB, or nothing (R233). -/
theorem pollRest_pops (w : State) :
    ∃ popped more, w.txq = popped ++ (pollRest w).txq ∧ popped.length ≤ 1 ∧
      (pollRest w).txb = w.txb ++ more := by
  obtain ⟨-, htxq, htxb⟩ := queue_beforeDrainNext w
  rw [pollRest]
  rcases drainNext_cases (timeoutCheck (drainRxb w)) with ⟨slot, rest, -, hq, -, heq⟩ | ⟨-, heq⟩ <;>
    rw [heq]
  · exact ⟨[slot], slot.frame, htxq.symm.trans hq, le_rfl, by rw [htxb]⟩
  · exact ⟨[], [], htxq.symm, Nat.zero_le 1, by rw [htxb, List.append_nil]⟩

/-- The check only sets cl_notify (R217). -/
theorem clNotify_carrierCheck (h : s.clNotify = true) : (carrierCheck s).clNotify = true := by
  rcases carrierCheck_cases s with ⟨-, heq⟩ | ⟨-, -, heq⟩ | ⟨-, -, heq⟩ <;> rw [heq]
  · exact h
  · exact h

/-- What POLL does to the elements it shares with the timer context and the host (R323). -/
theorem pollStep_shares :
    (pollStep s).txOutcome = .none ∧ (pollStep s).carrierSeen = false ∧ (pollStep s).rxb = [] ∧
      (∃ more, (pollStep s).txb = s.txb ++ more) ∧ (s.clNotify = true → (pollStep s).clNotify = true) ∧
      ∃ popped pushed kept, s.txq ++ pushed = popped ++ kept ∧ (pollStep s).txq = kept ∧
        popped.length ≤ 1 ∧ pushed.length ≤ 1 := by
  have hcarrier := carrierView_pollStep s
  have hseen : (pollStep s).carrierSeen = (carrierCheck s).carrierSeen :=
    (congrArg State.carrierSeen hcarrier :)
  have hnotify : (pollStep s).clNotify = (carrierCheck s).clNotify := (congrArg State.clNotify hcarrier :)
  have htxq : (carrierCheck s).txq = s.txq := by rw [carrierCheck_frame]
  have htxb : (handleOutcome (carrierCheck s)).txb = s.txb := by
    rw [handleOutcome_frame, carrierCheck_frame]
  obtain ⟨pushed, hpushed, honePushed⟩ := handleOutcome_pushes (carrierCheck s)
  obtain ⟨popped, more, hpopped, honePopped, hmore⟩ := pollRest_pops (handleOutcome (carrierCheck s))
  exact ⟨txOutcome_pollStep s, hseen.trans (carrierSeen_carrierCheck s), rxb_pollStep s,
    ⟨more, hmore.trans (by rw [htxb])⟩, fun h => hnotify.trans (clNotify_carrierCheck s h),
    popped, pushed, _, by rw [← htxq, ← hpushed]; exact hpopped, rfl, honePopped, honePushed⟩

end

/-! ### What an effect leaves -/

section
variable {s t : State} {i : Instr} (h : Effect s i t)
include h

/-- Only TICK and RESET write the timer context's elements (R323). -/
theorem Effect.keepsTimerView (htick : ∀ x, i ≠ .tick x) (hreset : i ≠ .reset) :
    timerView t = timerView s := by
  cases h with
  | wireRow => rw [assemble_frame, assemble_cnt]; rfl
  | host _ _ _ _ heffect => cases heffect <;> rfl
  | reset => exact absurd rfl hreset
  | tick x => exact absurd rfl (htick x)
  | poll => rw [eq_of_sansPoll (sansPoll_pollStep s), pollStep_cnt]; rfl

/-- Of the operations with a record, only POLL and RESET write POLL's elements (R323). -/
theorem Effect.keepsPolling (hport : portOf i ≠ none) (hpoll : i ≠ .poll) (hreset : i ≠ .reset) :
    t.inflight = s.inflight ∧ t.asmState = s.asmState ∧ t.asmBuf = s.asmBuf ∧
      t.asmExpect = s.asmExpect ∧ t.pending = s.pending ∧ t.resultCode = s.resultCode ∧
      t.resultSeq = s.resultSeq ∧ t.clDeadline = s.clDeadline ∧ t.dispatch = s.dispatch ∧
      t.cnt = { s.cnt with collision := t.cnt.collision, rxOverrun := t.cnt.rxOverrun } := by
  cases h with
  | wireRow _ hwire => exact absurd hwire hport
  | host _ _ _ _ heffect => cases heffect <;> exact ⟨rfl, rfl, rfl, rfl, rfl, rfl, rfl, rfl, rfl, rfl⟩
  | reset => exact absurd rfl hreset
  | tick x =>
    have hrest := outsideTick_tickStep s x
    have hcnt := cnt_of_outsideTick hrest
    rw [eq_withTickOf hrest]
    exact ⟨rfl, rfl, rfl, rfl, rfl, rfl, rfl, rfl, rfl, hcnt⟩
  | poll => exact absurd rfl hpoll

/-- The wire rows stay within POLL's elements (R197, R323). -/
theorem Effect.wireRow_frame (hport : portOf i = none) :
    t = { s with
      asmState := t.asmState, asmBuf := t.asmBuf, asmExpect := t.asmExpect, lastEvent := t.lastEvent
      backoffR := t.backoffR, draws := t.draws, pending := t.pending, resultCode := t.resultCode
      resultSeq := t.resultSeq, cnt := t.cnt, dispatch := t.dispatch } := by
  cases h with
  | wireRow => exact assemble_frame _ s
  | host _ _ hhost => cases hhost.symm.trans hport
  | _ => cases hport

/-- The host writes none of the elements that TICK and POLL share (R323). -/
theorem Effect.host_frame (hhost : portOf i = some .host) (hreset : i ≠ .reset) :
    t.txOutcome = s.txOutcome ∧ t.carrierSeen = s.carrierSeen ∧ t.lastEvent = s.lastEvent ∧
      t.backoffR = s.backoffR ∧ t.txb = s.txb ∧ t.rxb = s.rxb := by
  cases h with
  | wireRow _ hwire => cases hwire.symm.trans hhost
  | host _ _ _ _ heffect => cases heffect <;> exact ⟨rfl, rfl, rfl, rfl, rfl, rfl⟩
  | reset => exact absurd rfl hreset
  | _ => cases hhost

theorem Effect.keepsShadows (hconfig : ∀ c, i ≠ .config c) (hreset : i ≠ .reset) :
    t.cfgInvSh = s.cfgInvSh ∧ t.cfgSpeedSh = s.cfgSpeedSh := by
  cases h with
  | wireRow => rw [assemble_frame]; exact ⟨rfl, rfl⟩
  | host _ _ _ _ heffect =>
    cases heffect with
    | configured cfg => exact absurd rfl (hconfig cfg)
    | _ => exact ⟨rfl, rfl⟩
  | reset => exact absurd rfl hreset
  | tick x => rw [eq_withTickOf (outsideTick_tickStep s x)]; exact ⟨rfl, rfl⟩
  | poll => rw [eq_of_sansPoll (sansPoll_pollStep s)]; exact ⟨rfl, rfl⟩

theorem Effect.keepsSink (hsink : ∀ e, i ≠ .setSink e) (hreset : i ≠ .reset) : t.sinkEn = s.sinkEn := by
  cases h with
  | wireRow => rw [assemble_frame]
  | host _ _ _ _ heffect =>
    cases heffect with
    | registered en => exact absurd rfl (hsink en)
    | _ => rfl
  | reset => exact absurd rfl hreset
  | tick x => rw [eq_withTickOf (outsideTick_tickStep s x)]; rfl
  | poll => rw [eq_of_sansPoll (sansPoll_pollStep s)]

theorem Effect.keepsQueue (hsubmit : ∀ fl b, i ≠ .submit fl b) (hflush : i ≠ .flush) (hpoll : i ≠ .poll)
    (hreset : i ≠ .reset) : t.txq = s.txq := by
  cases h with
  | wireRow => rw [assemble_frame]
  | host _ _ _ _ heffect =>
    cases heffect with
    | queued flags body => exact absurd rfl (hsubmit flags body)
    | flushed => exact absurd rfl hflush
    | _ => rfl
  | reset => exact absurd rfl hreset
  | tick x => rw [eq_withTickOf (outsideTick_tickStep s x)]; rfl
  | poll => exact absurd rfl hpoll

theorem Effect.keepsNotify (hread : i ≠ .readStatus) (hpoll : i ≠ .poll) (hreset : i ≠ .reset) :
    t.clNotify = s.clNotify := by
  cases h with
  | wireRow => rw [assemble_frame]
  | host _ _ _ _ heffect =>
    cases heffect with
    | acknowledged => exact absurd rfl hread
    | _ => rfl
  | reset => exact absurd rfl hreset
  | tick x => rw [eq_withTickOf (outsideTick_tickStep s x)]; rfl
  | poll => exact absurd rfl hpoll

end

/-- States of one timer view agree on the timer context's elements. -/
theorem timer_of_timerView {s t : State} (h : timerView t = timerView s) :
    t.cfgInv = s.cfgInv ∧ t.speedSel = s.speedSel ∧ t.lineState = s.lineState ∧
      t.txBitpos = s.txBitpos ∧ t.txByte = s.txByte ∧ t.rxBitpos = s.rxBitpos ∧ t.rxShift = s.rxShift ∧
      t.prevL = s.prevL ∧ t.drive = s.drive ∧ t.idleCount = s.idleCount ∧
      t.cnt.collision = s.cnt.collision ∧ t.cnt.rxOverrun = s.cnt.rxOverrun :=
  ⟨(congrArg State.cfgInv h :), (congrArg State.speedSel h :), (congrArg State.lineState h :),
    (congrArg State.txBitpos h :), (congrArg State.txByte h :), (congrArg State.rxBitpos h :),
    (congrArg State.rxShift h :), (congrArg State.prevL h :), (congrArg State.drive h :),
    (congrArg State.idleCount h :), (congrArg (fun r : State => r.cnt.collision) h :),
    (congrArg (fun r : State => r.cnt.rxOverrun) h :)⟩

/-- Settles O53: each clause is read off the effect of the operation. -/
theorem writersOfTheTimerContextAndTheHost : Obligations.WritersOfTheTimerContextAndTheHost := by
  intro i s
  obtain ⟨t, hexec, heffect⟩ := exec_effect i s
  refine ⟨t, hexec, fun htick hreset => timer_of_timerView (heffect.keepsTimerView htick hreset),
    heffect.keepsPolling, heffect.wireRow_frame, heffect.host_frame, fun x hi => ?_, fun hi => ?_,
    heffect.keepsShadows, heffect.keepsSink, heffect.keepsQueue, heffect.keepsNotify⟩
  · subst hi
    cases hexec
    obtain ⟨hout, hseen, htaken, hheard⟩ := timerShares_tickStep s x
    exact ⟨hout, hseen, htaken, hheard⟩
  · subst hi
    cases hexec
    exact pollStep_shares s

/-! ### busy_out -/

theorem busyOut_iff {s : State} :
    busyOut s = true ↔ s.lineState ≠ .idle ∨ s.txBitpos ≠ none ∨ s.rxBitpos ≠ none := by
  simp [busyOut, Option.isSome_iff_ne_none, or_assoc]

/-- Settles O54: busy_out reads three elements of the timer context, which R210's first case reads too. -/
theorem busyOutIsTheLineOrACharacter : Obligations.BusyOutIsTheLineOrACharacter := by
  intro s
  refine ⟨busyOut_iff, fun hbusy => if_pos (busyOut_iff.mp hbusy), ⟨_, rfl, rfl⟩, fun i htick hreset => ?_⟩
  obtain ⟨t, hexec, heffect⟩ := exec_effect i s
  exact ⟨t, hexec, (congrArg busyOut (heffect.keepsTimerView htick hreset) :)⟩

end Sys2Proof.Machine
end

section
/-! The step on the records that run no operation (R115, R289, R301, R325), and the host's first reads after
reset (R341). -/

namespace Sys2Proof.Machine

theorem step_of_noRecord {s : State} (hin : s.input = []) : step s = .next s := by
  simp only [step, hin]

theorem step_of_undecodable {s : State} {r : OpRecord} {rest : List OpRecord} {e : DecodeError}
    (hin : s.input = r :: rest) (hdec : decode r = .error e) :
    step s = reject r.port e (issue r rest s) := by
  simp only [step, hin, hdec]

/-- Settles O6. -/
theorem noRecordNoChange : Obligations.NoRecordNoChange := fun _ => step_of_noRecord

/-- Settles O7: no operation stops, and of the records that are none only the host's is answered. -/
theorem nothingIsFatal : Obligations.NothingIsFatal := by
  intro s
  cases hin : s.input with
  | nil => exact .inl ⟨s, step_of_noRecord hin⟩
  | cons r rest =>
    cases hdec : decode r with
    | ok i =>
      obtain ⟨t, hexec, -⟩ := exec_effect i (issue r rest s)
      exact .inl ⟨t, (step_of_decode hin hdec).trans hexec⟩
    | error e =>
      rw [step_of_undecodable hin hdec]
      cases hport : r.port with
      | host => exact .inl ⟨_, rfl⟩
      | timer | polling => exact .inr ⟨r, rest, e, rfl, by simp [hport], hdec, rfl⟩

/-- At reset the idle counter is below the gap (R13), so the bus is Busy (R210). -/
theorem avail_resetOf {p : Params} (hp : p.Ok) : avail (State.resetOf p) = .busy := by
  obtain ⟨-, -, -, hgap, -⟩ := hp
  exact avail_of_gap (s := State.resetOf p) hgap

theorem statusBytes_resetOf {p : Params} (hp : p.Ok) :
    statusBytes (State.resetOf p) = [0x00#8, 0x00#8, 0x00#8] := by
  rw [statusBytes, statusByte0, avail_resetOf hp]
  simp [statusByte1, statusByte2, State.resetOf, availCode, lineCode]

theorem counterBytes_resetOf (c : Counter) (p : Params) :
    counterBytes c (State.resetOf p) = [0x00#8, 0x00#8] := by
  have hzero : (State.resetOf p).cnt.get c = 0#16 := by cases c <;> rfl
  rw [counterBytes, hzero]; decide

/-- Settles O52: every byte the three reads answer is made of elements that are 0 at reset. -/
theorem observedAfterReset : Obligations.ObservedAfterReset := by
  intro p hp s
  refine ⟨?_, rfl, fun idx => ?_, rfl, rfl⟩
  · rw [exec, execReadStatus, statusBytes_resetOf hp]; rfl
  · obtain ⟨c, hread, -⟩ := readIndex_ofNat idx s.cnt
    rw [exec, execReadCounter, hread]
    dsimp only
    rw [counterBytes_resetOf]; rfl

end Sys2Proof.Machine
end

section
/-! The two unspecified elements (R342): POLL, the wire rows and the host's commands do not read them, and a tick
reads them inside a character alone (R40, R42). -/

namespace Sys2Proof.Machine

/-! ### Operations that do not read the two elements -/

/-- The state with other values in tx_byte and rx_shift. -/
@[simps]
def withUnspecified (b v : Byte) (s : State) : State :=
  { s with txByte := b, rxShift := v }

section
variable (b v : Byte) (s : State)

theorem withUnspecified_carrierCheck :
    withUnspecified b v (carrierCheck s) = carrierCheck (withUnspecified b v s) := by
  simp only [carrierCheck, withUnspecified_carrierSeen, withUnspecified_clDeadline]
  split
  · rw [apply_ite (withUnspecified b v)]; rfl
  · rfl

theorem withUnspecified_arm (f : Frame) :
    withUnspecified b v (arm f s) = arm f (withUnspecified b v s) := by
  simp only [arm, withUnspecified_params, withUnspecified_pending]
  split
  · rfl
  · split <;> rfl

theorem withUnspecified_handleDone :
    withUnspecified b v (handleDone s) = handleDone (withUnspecified b v s) := by
  simp only [handleDone, withUnspecified_inflight]
  split
  · exact withUnspecified_arm b v _ _
  · rfl

theorem withUnspecified_handleCollided :
    withUnspecified b v (handleCollided s) = handleCollided (withUnspecified b v s) := by
  simp only [handleCollided, withUnspecified_inflight]
  split
  · exact apply_ite (withUnspecified b v) _ _ _
  · rfl

theorem withUnspecified_handleOutcome :
    withUnspecified b v (handleOutcome s) = handleOutcome (withUnspecified b v s) := by
  simp only [handleOutcome, withUnspecified_txOutcome]
  split
  · rfl
  · exact withUnspecified_handleDone b v s
  · exact withUnspecified_handleCollided b v s

theorem withUnspecified_complete (f : Frame) :
    withUnspecified b v (complete f s) = complete f (withUnspecified b v s) := by
  cases hv : valid f with
  | true => rw [complete_of_valid hv, complete_of_valid hv]; rfl
  | false => rw [complete_of_not_valid hv, complete_of_not_valid hv]; rfl

theorem withUnspecified_abortPartial :
    withUnspecified b v (abortPartial s) = abortPartial (withUnspecified b v s) :=
  apply_ite (withUnspecified b v) _ _ _

theorem withUnspecified_assembleData (c : Byte) :
    withUnspecified b v (assembleData c s) = assembleData c (withUnspecified b v s) := by
  simp only [assembleData, withUnspecified_asmState]
  split
  · rfl
  · exact apply_ite (withUnspecified b v) _ _ _
  · rw [apply_ite (withUnspecified b v)]
    exact congrArg (ite _ · _) (congrArg asmReset (withUnspecified_complete b v _ _))

theorem withUnspecified_assemble (e : RxEntry) :
    withUnspecified b v (assemble e s) = assemble e (withUnspecified b v s) := by
  simp only [assemble, assembleByte, startFixed, startVariable, ← withUnspecified_abortPartial,
    ← withUnspecified_assembleData]
  split
  · rfl
  · split <;> rfl

theorem withUnspecified_assembleAll (es : List RxEntry) :
    withUnspecified b v (assembleAll es s) = assembleAll es (withUnspecified b v s) := by
  induction es generalizing s with
  | nil => rfl
  | cons e rest ih => exact (ih (assemble e s)).trans (congrArg _ (withUnspecified_assemble b v s e))

theorem withUnspecified_drainRxb :
    withUnspecified b v (drainRxb s) = drainRxb (withUnspecified b v s) := by
  simp only [drainRxb, drainEntries_eq, withUnspecified_rxb, ← withUnspecified_assembleAll]
  rfl

theorem withUnspecified_timeoutCheck :
    withUnspecified b v (timeoutCheck s) = timeoutCheck (withUnspecified b v s) := by
  simp only [timeoutCheck, withUnspecified_pending]
  split
  · exact apply_ite (withUnspecified b v) _ _ _
  · rfl

theorem withUnspecified_drainNext :
    withUnspecified b v (drainNext s) = drainNext (withUnspecified b v s) := by
  simp only [drainNext, withUnspecified_inflight, withUnspecified_txq]
  split
  · exact apply_ite (withUnspecified b v) _ _ _
  · rfl

/-- None of POLL's five steps reads them (R270). -/
theorem withUnspecified_pollStep :
    withUnspecified b v (pollStep s) = pollStep (withUnspecified b v s) := by
  simp only [pollStep, withUnspecified_carrierCheck, withUnspecified_handleOutcome,
    withUnspecified_drainRxb, withUnspecified_timeoutCheck, withUnspecified_drainNext]

theorem withUnspecified_pushRxb (e : RxEntry) :
    withUnspecified b v (pushRxb e s) = pushRxb e (withUnspecified b v s) :=
  apply_ite (withUnspecified b v) _ _ _

theorem withUnspecified_enqueue (body : Frame) (prio : Bool) :
    withUnspecified b v (enqueue body prio s) = enqueue body prio (withUnspecified b v s) := by
  simp only [enqueue, apply_ite (withUnspecified b v)]
  rfl

/-- But for TICK and RESET, an operation carries the two values through. -/
theorem exec_withUnspecified {i : Instr} (htick : ∀ x, i ≠ .tick x) (hreset : i ≠ .reset) :
    exec i (withUnspecified b v s) = mapNext (withUnspecified b v) (exec i s) := by
  cases i with
  | submit flags body =>
    simp only [exec, execSubmit, mapNext, withUnspecified_params]
    split
    · rw [withUnspecified_enqueue]
    · rfl
  | config cfg => simp only [exec, execConfig]; cases readConfig cfg <;> rfl
  | setSink en => simp only [exec, execSetSink]; cases readSink en <;> rfl
  | readCounter idx => simp only [exec, execReadCounter]; cases readIndex idx <;> rfl
  | flush | readResult | readStatus => rfl
  | reset => exact absurd rfl hreset
  | tick x => exact absurd rfl (htick x)
  | poll => exact congrArg Host.Outcome.next (withUnspecified_pollStep b v s).symm
  | opcLen2 _ | opcLen4 _ | opcLen6 _ | opcLenVar _ | data _ =>
    rw [exec_wireRow rfl, exec_wireRow rfl]
    exact congrArg Host.Outcome.next (withUnspecified_assemble b v s { err := false, byte := _ }).symm
end

/-! ### The relation along a tick -/

theorem sameButUnspecified_iff {s t : State} :
    SameButUnspecified s t ↔
      ∃ b v, t = withUnspecified b v s ∧ (s.txBitpos ≠ none → b = s.txByte) ∧
        (s.rxBitpos ≠ none → v = s.rxShift) :=
  ⟨fun ⟨hsame, hb, hv⟩ => ⟨t.txByte, t.rxShift, hsame, hb, hv⟩,
    fun ⟨_, _, hsame, hb, hv⟩ => hsame ▸ ⟨rfl, hb, hv⟩⟩

/-- A new state that neither starts a character nor writes the two elements stays related. -/
theorem SameButUnspecified.map {s t : State} (h : SameButUnspecified s t) {f : State → State}
    (hcomm : ∀ b v, withUnspecified b v (f s) = f (withUnspecified b v s))
    (htx : (f s).txBitpos = s.txBitpos ∧ (f s).txByte = s.txByte)
    (hrx : (f s).rxBitpos = s.rxBitpos ∧ (f s).rxShift = s.rxShift) : SameButUnspecified (f s) (f t) := by
  obtain ⟨b, v, rfl, hb, hv⟩ := sameButUnspecified_iff.mp h
  obtain ⟨hpos, hbyte⟩ := htx
  obtain ⟨hbit, hshift⟩ := hrx
  exact sameButUnspecified_iff.mpr
    ⟨b, v, (hcomm b v).symm, by rwa [hpos, hbyte], by rwa [hbit, hshift]⟩

section
variable {b v : Byte} {s : State}

/-- A frame starts with a byte from TXB (R143). -/
theorem sameButUnspecified_frameStart (hb : s.txBitpos ≠ none → b = s.txByte)
    (hv : s.rxBitpos ≠ none → v = s.rxShift) (av : Availability) :
    SameButUnspecified (frameStart av s) (frameStart av (withUnspecified b v s)) := by
  simp only [frameStart, withUnspecified_txBitpos, withUnspecified_txb]
  split
  · split
    · exact ⟨rfl, fun _ => rfl, hv⟩
    · exact ⟨rfl, hb, hv⟩
  · exact ⟨rfl, hb, hv⟩

/-- After a stop bit tx_byte comes from TXB, or no character is under way (R145). -/
theorem sameButUnspecified_txAdvance (hb : b = s.txByte) (hv : s.rxBitpos ≠ none → v = s.rxShift)
    (p : TxBit) : SameButUnspecified (txAdvance p s) (txAdvance p (withUnspecified b v s)) := by
  cases p with
  | start => exact ⟨rfl, fun _ => hb, hv⟩
  | data k =>
    simp only [txAdvance]
    split <;> exact ⟨rfl, fun _ => hb, hv⟩
  | stop =>
    simp only [txAdvance, withUnspecified_txb]
    split
    · exact ⟨rfl, fun _ => rfl, hv⟩
    · exact ⟨rfl, fun _ => hb, hv⟩

/-- The transmit branch runs inside a character, where tx_byte is the same (R40, R142). -/
theorem sameButUnspecified_transmit (hb : b = s.txByte) (hv : s.rxBitpos ≠ none → v = s.rxShift)
    (p : TxBit) (l : Level) :
    SameButUnspecified (transmit p l s) (transmit p l (withUnspecified b v s)) := by
  have hbyte : (withUnspecified b v s).txByte = s.txByte := hb
  rw [transmit_eq_driveBit, transmit_eq_driveBit, hbyte]
  split
  · exact sameButUnspecified_txAdvance (s := driveBit (txLevel s.txByte p) s) hb hv p
  · exact ⟨rfl, fun _ => hb, hv⟩

/-- A start edge clears rx_shift, and inside a character it is the same (R42, R146 to R148). -/
theorem sameButUnspecified_receive (hb : s.txBitpos ≠ none → b = s.txByte)
    (hv : s.rxBitpos ≠ none → v = s.rxShift) (l : Level) :
    SameButUnspecified (receive l s) (receive l (withUnspecified b v s)) := by
  cases hr : s.rxBitpos with
  | none =>
    rw [receive_of_idle hr, receive_of_idle (s := withUnspecified b v s) hr, withUnspecified_prevL]
    split
    · exact ⟨rfl, hb, fun _ => rfl⟩
    · exact ⟨rfl, hb, hv⟩
  | some q =>
    obtain rfl : v = s.rxShift := hv (by simp [hr])
    cases q with
    | data k =>
      rw [receive_of_data hr, receive_of_data (s := withUnspecified b s.rxShift s) hr]
      exact ⟨rfl, hb, fun _ => rfl⟩
    | stop =>
      have hdrive : driveBit true (withUnspecified b s.rxShift s) =
          withUnspecified b s.rxShift (driveBit true s) := rfl
      rw [receive_of_stop hr, receive_of_stop (s := withUnspecified b s.rxShift s) hr, hdrive,
        ← withUnspecified_pushRxb, withUnspecified_rxShift]
      rcases pushRxb_cases { err := !l, byte := s.rxShift } (driveBit true s) with ⟨-, heq⟩ | ⟨-, heq⟩ <;>
        rw [heq] <;> exact ⟨rfl, hb, fun hn => absurd rfl hn⟩

end

section
variable {s t : State} (h : SameButUnspecified s t)
include h

theorem SameButUnspecified.latchConfig : SameButUnspecified (latchConfig s) (latchConfig t) :=
  h.map (fun _ _ => rfl) ⟨rfl, rfl⟩ ⟨rfl, rfl⟩

theorem SameButUnspecified.endCollision : SameButUnspecified (endCollision s) (endCollision t) :=
  h.map (fun _ _ => apply_ite _ _ _ _) (by rw [endCollision_frame]; exact ⟨rfl, rfl⟩)
    (by rw [endCollision_frame]; exact ⟨rfl, rfl⟩)

theorem SameButUnspecified.endTick (l : Level) (active : Bool) :
    SameButUnspecified (endTick l active s) (endTick l active t) :=
  h.map (fun _ _ => apply_ite _ _ _ _) (by rw [endTick_frame]; exact ⟨rfl, rfl⟩)
    (by rw [endTick_frame]; exact ⟨rfl, rfl⟩)

/-- The bit position chooses the branch, and the branch what is read of the two elements (R142). -/
theorem SameButUnspecified.tickBranch (l : Level) :
    SameButUnspecified (tickBranch l s) (tickBranch l t) := by
  obtain ⟨b, v, rfl, hb, hv⟩ := sameButUnspecified_iff.mp h
  simp only [Machine.tickBranch, withUnspecified_txBitpos]
  split
  · next p hp => exact (sameButUnspecified_transmit (hb (by simp [hp])) hv p l).endTick l true
  · exact (sameButUnspecified_receive hb hv l).endTick l (receiveActive l s)

theorem SameButUnspecified.frameStart (av : Availability) :
    SameButUnspecified (frameStart av s) (frameStart av t) := by
  obtain ⟨b, v, rfl, hb, hv⟩ := sameButUnspecified_iff.mp h
  exact sameButUnspecified_frameStart hb hv av

/-- Avail() and the polarity, which the tick reads first, are the same in both states (R143). -/
theorem SameButUnspecified.tickStep (x : Level) : SameButUnspecified (tickStep x s) (tickStep x t) := by
  have havail : avail (Machine.latchConfig t) = avail (Machine.latchConfig s) := by rw [h.same]; rfl
  have hinv : (Machine.latchConfig t).cfgInv = (Machine.latchConfig s).cfgInv := by rw [h.same]; rfl
  simp only [Machine.tickStep, havail, hinv]
  exact (h.latchConfig.endCollision.frameStart _).tickBranch _

/-! ### Operations and steps -/

/-- RESET's two free values are drawn from elements that the states share (log 1); every other operation but
TICK leaves the characters under way as they are. -/
theorem SameButUnspecified.exec (i : Instr) :
    ∃ s' t', exec i s = .next s' ∧ exec i t = .next t' ∧ SameButUnspecified s' t' := by
  obtain ⟨b, v, rfl, hb, hv⟩ := sameButUnspecified_iff.mp h
  obtain ⟨u, hexec, heffect⟩ := exec_effect i s
  by_cases htick : ∃ x, i = .tick x
  · obtain ⟨x, rfl⟩ := htick
    exact ⟨_, _, rfl, rfl, h.tickStep x⟩
  · have hother : ∀ x, i ≠ .tick x := not_exists.mp htick
    by_cases hreset : i = .reset
    · subst hreset
      exact ⟨_, _, rfl, rfl, rfl, fun _ => rfl, fun _ => rfl⟩
    · obtain ⟨-, -, -, hpos, hbyte, hbit, hshift, -⟩ :=
        timer_of_timerView (heffect.keepsTimerView hother hreset)
      refine ⟨u, withUnspecified b v u, hexec, ?_, rfl, ?_, ?_⟩
      · rw [exec_withUnspecified b v s hother hreset, hexec]; rfl
      · rw [hpos, hbyte]; exact hb
      · rw [hbit, hshift]; exact hv

theorem SameButUnspecified.issue (r : OpRecord) (rest : List OpRecord) :
    SameButUnspecified (issue r rest s) (issue r rest t) :=
  h.map (fun _ _ => rfl) ⟨rfl, rfl⟩ ⟨rfl, rfl⟩

theorem SameButUnspecified.illegal : SameButUnspecified (illegal s) (illegal t) :=
  h.map (fun _ _ => rfl) ⟨rfl, rfl⟩ ⟨rfl, rfl⟩

end

/-- Settles O56: related states take the same record, and whatever it is the step keeps the relation. -/
theorem unspecifiedValuesAreNeverObserved : Obligations.UnspecifiedValuesAreNeverObserved := by
  intro s t h
  have hinput : t.input = s.input := (congrArg State.input h.same :)
  cases hin : s.input with
  | nil => exact .inl ⟨s, t, step_of_noRecord hin, step_of_noRecord (hinput.trans hin), h⟩
  | cons r rest =>
    cases hdec : decode r with
    | ok i =>
      obtain ⟨s', t', hs, ht, hrel⟩ := (h.issue r rest).exec i
      exact .inl ⟨s', t', (step_of_decode hin hdec).trans hs,
        (step_of_decode (hinput.trans hin) hdec).trans ht, hrel⟩
    | error e =>
      rw [step_of_undecodable hin hdec, step_of_undecodable (hinput.trans hin) hdec]
      cases r.port with
      | host => exact .inl ⟨_, _, rfl, rfl, (h.issue r rest).illegal⟩
      | timer | polling => exact .inr ⟨_, rfl, rfl⟩

end Sys2Proof.Machine
end
